-- ==== Sys2Proof/Word.lean ====
section
/-! DEFINITION. The word types of the SDB: registers and addresses are unsigned 32-bit values (00_scope.md R11), memory
and pixel entries are bytes. -/

namespace Sys2Proof

/-- A register value: unsigned, 32 bits, arithmetic modulo 2^32 (00_scope.md R11). -/
abbrev Word := BitVec 32

/-- A byte address, `ADDR_W = 32` (00_scope.md R9, R11; 20_memory.md R90). -/
abbrev Addr := BitVec 32

/-- A memory byte or a pixel-queue entry (10_state.md R53, R62). -/
abbrev Byte := BitVec 8

end Sys2Proof
end

