-- ==== Sys2Proof/Syntax.lean ====
section
/-! DEFINITION. The names of the SDB (channels, generators, agents, access sizes, registers) and its instructions: one
constructor of `Instr` for each row of spec/opcode_table.json (00_scope.md R2, 30_encoding.md R127). -/

namespace Sys2Proof

/-- The three transfer channels: 0 is descriptor A, 1 is descriptor B, 2 is the memory-transfer channel M (00_scope.md R8). -/
inductive Chan where
  | ch0
  | ch1
  | ch2
deriving DecidableEq, Repr, Inhabited

/-- The three timing generators: horizontal sync, vertical sync, pixel/color (10_state.md section 4). -/
inductive Gen where
  | h
  | v
  | p
deriving DecidableEq, Repr, Inhabited

/-- The agents that take atomic steps (00_scope.md R7; 60_exceptions.md R333). -/
inductive Agent where
  | host
  | chan (n : Chan)
  | gen (g : Gen)
  | seq
deriving DecidableEq, Repr, Inhabited

/-- The access sizes of 1, 2 and 4 bytes (30_encoding.md R122; 10_state.md R38). -/
inductive Size where
  | byte
  | half
  | word
deriving DecidableEq, Repr, Inhabited

/-- The sequencer configuration registers (10_state.md R59). -/
inductive SeqCfg where
  | fbBase
  | fbLen
  | ptrAddr
  | paramH
  | paramV
  | paramP
  | pins
deriving DecidableEq, Repr, Inhabited

/-- The 31 registers of the window (30_encoding.md R127). -/
inductive Reg where
  | chReadAddr (n : Chan)
  | chWriteAddr (n : Chan)
  | chTransCount (n : Chan)
  | chCtrl (n : Chan)
  | multiTrig
  | status
  | resClaim
  | genEnable
  | genParam (g : Gen)
  | pixTxf
  | genStatus
  | imemUsed
  | seqCfg (c : SeqCfg)
  | seqCtrl
  | seqStatus
deriving DecidableEq, Repr, Inhabited

/-- The kinds of host-access fault (60_exceptions.md R313). -/
inductive HostFaultKind where
  | illegalHeader
  | narrowRead
  | undefinedOffset
  | narrowWrite
  | misalignedMemory
deriving DecidableEq, Repr, Inhabited

/-- A BUS transaction: a 16-bit header and a 32-bit data word, 48 bits in all (30_encoding.md R120, R121, R125). -/
structure Transaction where
  hdr : BitVec 16
  data : Word
deriving DecidableEq, Repr, Inhabited

/-- The instructions: the register operations of spec/opcode_table.json. A write carries its value `v`, which for the
narrow writes of `PIX_TXF` is the zero-extended low part of the data word (30_encoding.md R123); a read has no operand,
its data word is ignored (R121). -/
inductive Instr where
  -- Channel registers (40_channel_registers.md R150 to R157)
  /-- `WR.CH0.READ_ADDR` (header 0xA000, R150). -/
  | wrCh0ReadAddr (v : Word)
  /-- `RD.CH0.READ_ADDR` (header 0x2000, R151). -/
  | rdCh0ReadAddr
  /-- `WR.CH0.WRITE_ADDR` (header 0xA004, R152). -/
  | wrCh0WriteAddr (v : Word)
  /-- `RD.CH0.WRITE_ADDR` (header 0x2004, R153). -/
  | rdCh0WriteAddr
  /-- `WR.CH0.TRANS_COUNT` (header 0xA008, R154). -/
  | wrCh0TransCount (v : Word)
  /-- `RD.CH0.TRANS_COUNT` (header 0x2008, R155). -/
  | rdCh0TransCount
  /-- `WR.CH0.CTRL` (header 0xA00C, R156). -/
  | wrCh0Ctrl (v : Word)
  /-- `RD.CH0.CTRL` (header 0x200C, R157). -/
  | rdCh0Ctrl
  /-- `WR.CH1.READ_ADDR` (header 0xA040, R150). -/
  | wrCh1ReadAddr (v : Word)
  /-- `RD.CH1.READ_ADDR` (header 0x2040, R151). -/
  | rdCh1ReadAddr
  /-- `WR.CH1.WRITE_ADDR` (header 0xA044, R152). -/
  | wrCh1WriteAddr (v : Word)
  /-- `RD.CH1.WRITE_ADDR` (header 0x2044, R153). -/
  | rdCh1WriteAddr
  /-- `WR.CH1.TRANS_COUNT` (header 0xA048, R154). -/
  | wrCh1TransCount (v : Word)
  /-- `RD.CH1.TRANS_COUNT` (header 0x2048, R155). -/
  | rdCh1TransCount
  /-- `WR.CH1.CTRL` (header 0xA04C, R156). -/
  | wrCh1Ctrl (v : Word)
  /-- `RD.CH1.CTRL` (header 0x204C, R157). -/
  | rdCh1Ctrl
  /-- `WR.CH2.READ_ADDR` (header 0xA080, R150). -/
  | wrCh2ReadAddr (v : Word)
  /-- `RD.CH2.READ_ADDR` (header 0x2080, R151). -/
  | rdCh2ReadAddr
  /-- `WR.CH2.WRITE_ADDR` (header 0xA084, R152). -/
  | wrCh2WriteAddr (v : Word)
  /-- `RD.CH2.WRITE_ADDR` (header 0x2084, R153). -/
  | rdCh2WriteAddr
  /-- `WR.CH2.TRANS_COUNT` (header 0xA088, R154). -/
  | wrCh2TransCount (v : Word)
  /-- `RD.CH2.TRANS_COUNT` (header 0x2088, R155). -/
  | rdCh2TransCount
  /-- `WR.CH2.CTRL` (header 0xA08C, R156). -/
  | wrCh2Ctrl (v : Word)
  /-- `RD.CH2.CTRL` (header 0x208C, R157). -/
  | rdCh2Ctrl
  -- Global registers (40_channel_registers.md R158 to R163)
  /-- `WR.MULTI_TRIG` (header 0xA100, R158). -/
  | wrMultiTrig (v : Word)
  /-- `RD.MULTI_TRIG` (header 0x2100, R159). -/
  | rdMultiTrig
  /-- `WR.STATUS` (header 0xA104, R160). -/
  | wrStatus (v : Word)
  /-- `RD.STATUS` (header 0x2104, R161). -/
  | rdStatus
  /-- `WR.RES_CLAIM` (header 0xA108, R162). -/
  | wrResClaim (v : Word)
  /-- `RD.RES_CLAIM` (header 0x2108, R163). -/
  | rdResClaim
  -- Timing-generator registers (44_timing_generators.md R241 to R253)
  /-- `WR.GEN_ENABLE` (header 0xA200, R241). -/
  | wrGenEnable (v : Word)
  /-- `RD.GEN_ENABLE` (header 0x2200, R243). -/
  | rdGenEnable
  /-- `WR.GEN_PARAM_H` (header 0xA204, R244). -/
  | wrGenParamH (v : Word)
  /-- `RD.GEN_PARAM_H` (header 0x2204, R245). -/
  | rdGenParamH
  /-- `WR.GEN_PARAM_V` (header 0xA208, R244). -/
  | wrGenParamV (v : Word)
  /-- `RD.GEN_PARAM_V` (header 0x2208, R245). -/
  | rdGenParamV
  /-- `WR.GEN_PARAM_P` (header 0xA20C, R244). -/
  | wrGenParamP (v : Word)
  /-- `RD.GEN_PARAM_P` (header 0x220C, R245). -/
  | rdGenParamP
  /-- `WR.PIX_TXF.B` (header 0x8210, R246). -/
  | wrPixTxfB (v : Word)
  /-- `WR.PIX_TXF.H` (header 0x9210, R246). -/
  | wrPixTxfH (v : Word)
  /-- `WR.PIX_TXF.W` (header 0xA210, R246). -/
  | wrPixTxfW (v : Word)
  /-- `RD.PIX_TXF` (header 0x2210, R247). -/
  | rdPixTxf
  /-- `WR.GEN_STATUS` (header 0xA214, R253). -/
  | wrGenStatus (v : Word)
  /-- `RD.GEN_STATUS` (header 0x2214, R251). -/
  | rdGenStatus
  /-- `WR.IMEM_USED` (header 0xA218, R248). -/
  | wrImemUsed (v : Word)
  /-- `RD.IMEM_USED` (header 0x2218, R249). -/
  | rdImemUsed
  -- Start-up sequencer registers (45_startup_sequencer.md R281 to R287)
  /-- `WR.SEQ_FB_BASE` (header 0xA300, R282). -/
  | wrSeqFbBase (v : Word)
  /-- `RD.SEQ_FB_BASE` (header 0x2300, R281). -/
  | rdSeqFbBase
  /-- `WR.SEQ_FB_LEN` (header 0xA304, R282). -/
  | wrSeqFbLen (v : Word)
  /-- `RD.SEQ_FB_LEN` (header 0x2304, R281). -/
  | rdSeqFbLen
  /-- `WR.SEQ_PTR_ADDR` (header 0xA308, R282). -/
  | wrSeqPtrAddr (v : Word)
  /-- `RD.SEQ_PTR_ADDR` (header 0x2308, R281). -/
  | rdSeqPtrAddr
  /-- `WR.SEQ_PARAM_H` (header 0xA30C, R282). -/
  | wrSeqParamH (v : Word)
  /-- `RD.SEQ_PARAM_H` (header 0x230C, R281). -/
  | rdSeqParamH
  /-- `WR.SEQ_PARAM_V` (header 0xA310, R282). -/
  | wrSeqParamV (v : Word)
  /-- `RD.SEQ_PARAM_V` (header 0x2310, R281). -/
  | rdSeqParamV
  /-- `WR.SEQ_PARAM_P` (header 0xA314, R282). -/
  | wrSeqParamP (v : Word)
  /-- `RD.SEQ_PARAM_P` (header 0x2314, R281). -/
  | rdSeqParamP
  /-- `WR.SEQ_PINS` (header 0xA318, R282). -/
  | wrSeqPins (v : Word)
  /-- `RD.SEQ_PINS` (header 0x2318, R281). -/
  | rdSeqPins
  /-- `WR.SEQ_CTRL` (header 0xA31C, R284). -/
  | wrSeqCtrl (v : Word)
  /-- `RD.SEQ_CTRL` (header 0x231C, R285). -/
  | rdSeqCtrl
  /-- `WR.SEQ_STATUS` (header 0xA320, R287). -/
  | wrSeqStatus (v : Word)
  /-- `RD.SEQ_STATUS` (header 0x2320, R286). -/
  | rdSeqStatus
deriving DecidableEq, Repr

end Sys2Proof
end

