-- ==== Sys2Proof/Config.lean ====
section
/-! DEFINITION. What an implementation of the SDB fixes (the parameters of 00_scope.md R9) and the free values of the
model: what a memory byte nobody has written reads as (20_memory.md R93), which agent steps next (R105), and the kind of an
unmapped host access's fault (92_eei_decisions.md D6). -/

namespace Sys2Proof

/-- `COLOR_ORDER`: the compile-time bit order of a packed colour (00_scope.md R9; 43_memory_transfer.md R230). -/
inductive ColorOrder where
  | rgb
  | bgr
deriving DecidableEq, Repr, Inhabited

/-- A run of mapped memory bytes `[base, base + size)`; `MEM_MAP` is a list of them (assumption 2). -/
structure Region where
  base : Nat
  size : Nat
deriving DecidableEq, Repr, Inhabited

/-- The OPEN implementation parameters of 00_scope.md R9. They never change while the machine runs (assumption 1). -/
structure Params where
  /-- `SDB_BASE`, the base address of the 4 KiB register window. -/
  sdbBase : Addr
  /-- `MEM_MAP`, which byte addresses are backed by memory. -/
  memMap : List Region
  /-- `WIDTH`, the framebuffer's width in pixels. -/
  width : Nat
  /-- `HEIGHT`, the framebuffer's height in pixels. -/
  height : Nat
  /-- `FB_BASE`, the framebuffer's base address. -/
  fbBase : Addr
  /-- `PTR_ADDR`, the address of the pointer cell. -/
  ptrAddr : Addr
  /-- `PROG_LEN_H`, the instruction count of the horizontal generator's micro-program. -/
  progLenH : Nat
  /-- `PROG_LEN_V`. -/
  progLenV : Nat
  /-- `PROG_LEN_P`. -/
  progLenP : Nat
  /-- `PIX_FIFO_DEPTH`, the capacity of the pixel queue. -/
  pixDepth : Nat
  /-- `PARAM_FIFO_DEPTH`, the capacity of each parameter queue. -/
  paramDepth : Nat
  /-- `H_ACTIVE`. -/
  hActive : Word
  /-- `V_ACTIVE`. -/
  vActive : Word
  /-- `P_ACTIVE`. -/
  pActive : Word
  /-- `COLOR_ORDER`. -/
  colorOrder : ColorOrder
deriving DecidableEq, Repr

/-- `N`, the framebuffer's length in bytes (00_scope.md R9). -/
def Params.fbLen (p : Params) : Nat := p.width * p.height

/-- `PROG_LEN_g` (00_scope.md R9). -/
def Params.progLen (p : Params) : Gen → Nat
  | .h => p.progLenH
  | .v => p.progLenV
  | .p => p.progLenP

/-- `IMEM_SIZE`, the shared instruction-memory slots (00_scope.md R9). -/
def imemSize : Nat := 32

/-- `NUM_SM`, the generator state-machine slots (00_scope.md R9; only slots 0 to 2 are used, 10_state.md R58). -/
def numSm : Nat := 4

/-- The example parameter set of 95_test_vectors.md section 0. DESIGN CHOICE (assumption 1): `State.reset` carries it; the
spec leaves every one of these values OPEN. -/
def exampleParams : Params where
  sdbBase := 0x50000000#32
  memMap := [⟨0x20000000, 0x40000⟩]
  width := 320
  height := 240
  fbBase := 0x20000100#32
  ptrAddr := 0x20000000#32
  progLenH := 5
  progLenV := 5
  progLenP := 6
  pixDepth := 4
  paramDepth := 4
  hActive := 0x280#32
  vActive := 0x1E0#32
  pActive := 0x280#32
  colorOrder := .bgr

/-- FREE VALUE (assumption 3). The read oracle of 20_memory.md R93: what the byte at an address that no agent has
written reads as, at the step with the given index. Nothing constrains it, and two reads of one byte may differ. -/
opaque Config.readOracle : Nat → Addr → Byte

/-- FREE VALUE (assumption 4). The agent that has the turn at the step with the given index, where the state's own
schedule names none: 20_memory.md R105 lets any agent with an enabled step be next. -/
opaque Config.schedule : Nat → Agent

/-- FREE VALUE (assumption 11). The kind recorded for the host-access fault of a host load or store at an unmapped
address, at the step with the given index: 92_eei_decisions.md D6 makes the access a HostFault, and none of the five
kinds of 60_exceptions.md R313 is said to be its kind. -/
opaque Config.unmappedKind : Nat → Addr → HostFaultKind

end Sys2Proof
end

