-- ==== Sys2Proof/WellFormed.lean ====
section
/-! DEFINITION. Which instructions an encoding can hold, and which parameter values are legal (00_scope.md R9, R10). -/

namespace Sys2Proof

/-- An instruction is well formed when its operand fits its encoding: the value of a byte or halfword write of `PIX_TXF`
is the zero-extended low 8 or 16 bits of the data word (30_encoding.md R122, R123). Every other operand is the whole
data word. -/
def Instr.wf : Instr → Bool
  | .wrPixTxfB v => decide (v.toNat < 2 ^ 8)
  | .wrPixTxfH v => decide (v.toNat < 2 ^ 16)
  | _ => true

/-- The regions rise strictly and leave a gap between each other, none is empty, and all lie below 2^32: one list for
each set of mapped addresses (assumption 2). `lo` is the least address the next region may start at. -/
def regionsCanonical (lo : Nat) : List Region → Bool
  | [] => true
  | r :: rs => decide (lo ≤ r.base) && decide (0 < r.size) && decide (r.base + r.size ≤ 2 ^ 32) &&
      regionsCanonical (r.base + r.size + 1) rs

/-- Every address of `[lo, hi)` is mapped; in a canonical list that means one region holds the whole range. -/
def rangeMapped (rs : List Region) (lo hi : Nat) : Bool :=
  decide (hi ≤ lo) || rs.any fun r => decide (r.base ≤ lo) && decide (hi ≤ r.base + r.size)

/-- No address of `[lo, hi)` is mapped. -/
def rangeUnmapped (rs : List Region) (lo hi : Nat) : Bool :=
  rs.all fun r => decide (r.base + r.size ≤ lo) || decide (hi ≤ r.base)

/-- The bounds of 00_scope.md R9 on single parameters. -/
def Params.inBounds (p : Params) : Bool :=
  decide (p.sdbBase.toNat % 0x1000 = 0) && decide (1 ≤ p.width) && decide (1 ≤ p.height) &&
  decide (p.ptrAddr.toNat % 4 = 0) &&
  decide (1 ≤ p.progLenH) && decide (p.progLenH ≤ 32) && decide (1 ≤ p.progLenV) && decide (p.progLenV ≤ 32) &&
  decide (1 ≤ p.progLenP) && decide (p.progLenP ≤ 32) &&
  decide (1 ≤ p.pixDepth) && decide (p.pixDepth ≤ 15) && decide (1 ≤ p.paramDepth) && decide (p.paramDepth ≤ 7)

/-- The conditions of 00_scope.md R10 that tie parameters together: the window holds no memory, the framebuffer and the
pointer cell are mapped and do not overlap, and the framebuffer's length fits a count. DESIGN CHOICE (assumption 16): the
ends of the ranges are natural numbers, so a framebuffer that would run past 2^32 is not legal; R10 does not say how its ranges
read there. -/
def Params.mapLegal (p : Params) : Bool :=
  regionsCanonical 0 p.memMap &&
  rangeUnmapped p.memMap p.sdbBase.toNat (p.sdbBase.toNat + 0x1000) &&
  rangeMapped p.memMap p.fbBase.toNat (p.fbBase.toNat + p.fbLen) &&
  rangeMapped p.memMap p.ptrAddr.toNat (p.ptrAddr.toNat + 4) &&
  decide (p.fbLen ≤ 2 ^ 32 - 1) &&
  (decide (p.fbBase.toNat + p.fbLen ≤ p.ptrAddr.toNat) || decide (p.ptrAddr.toNat + 4 ≤ p.fbBase.toNat))

/-- The parameter values 00_scope.md R9 and R10 allow. The model runs by the rules on any values (assumption 22);
statements that need legal ones say so. -/
def Params.legal (p : Params) : Bool := p.inBounds && p.mapLegal

end Sys2Proof
end

