-- ==== Sys2Proof/Decode.lean ====
section
/-! DEFINITION. The BUS encoding (30_encoding.md): header fields, the register map, the decoder (R130) and the encoder. -/

namespace Sys2Proof

/-- A channel's index (00_scope.md R8). -/
def Chan.index : Chan → Nat
  | .ch0 => 0
  | .ch1 => 1
  | .ch2 => 2

/-- A generator's bit in the fields of 10_state.md section 4: H is bit 0, V is bit 1, P is bit 2. -/
def Gen.index : Gen → Nat
  | .h => 0
  | .v => 1
  | .p => 2

/-- The number of bytes of an access, `s = 1 << SZ` (30_encoding.md R122). -/
def Size.bytes : Size → Nat
  | .byte => 1
  | .half => 2
  | .word => 4

/-- The SZ field of a size (30_encoding.md R121). -/
def Size.code : Size → BitVec 2
  | .byte => 0#2
  | .half => 1#2
  | .word => 2#2

/-- The size an SZ field names; 3 is reserved (30_encoding.md R122). -/
def Size.ofCode? (z : BitVec 2) : Option Size :=
  if z = 0#2 then some .byte else if z = 1#2 then some .half else if z = 2#2 then some .word else none

/-- The low `8 * s` bits of a value, zero-extended (30_encoding.md R123). -/
def narrow : Size → Word → Word
  | .byte, v => (v.extractLsb' 0 8).setWidth 32
  | .half, v => (v.extractLsb' 0 16).setWidth 32
  | .word, v => v

/-- The offset of a sequencer configuration register (10_state.md R59). -/
def SeqCfg.offset : SeqCfg → Nat
  | .fbBase => 0x300
  | .fbLen => 0x304
  | .ptrAddr => 0x308
  | .paramH => 0x30C
  | .paramV => 0x310
  | .paramP => 0x314
  | .pins => 0x318

/-- The offset of a register in the window, as a number (30_encoding.md R127; channel registers R128). -/
def Reg.offsetNat : Reg → Nat
  | .chReadAddr n => 0x040 * n.index + 0x00
  | .chWriteAddr n => 0x040 * n.index + 0x04
  | .chTransCount n => 0x040 * n.index + 0x08
  | .chCtrl n => 0x040 * n.index + 0x0C
  | .multiTrig => 0x100
  | .status => 0x104
  | .resClaim => 0x108
  | .genEnable => 0x200
  | .genParam g => 0x204 + 4 * g.index
  | .pixTxf => 0x210
  | .genStatus => 0x214
  | .imemUsed => 0x218
  | .seqCfg c => c.offset
  | .seqCtrl => 0x31C
  | .seqStatus => 0x320

/-- The OFF field that names a register (30_encoding.md R121, R127). -/
def Reg.offset (r : Reg) : BitVec 12 := BitVec.ofNat 12 r.offsetNat

/-- The four registers of a channel (30_encoding.md R128). -/
def Reg.ofChan (n : Chan) : List Reg := [.chReadAddr n, .chWriteAddr n, .chTransCount n, .chCtrl n]

/-- The registers of 30_encoding.md R127, in the order of its table. -/
def Reg.all : List Reg :=
  Reg.ofChan .ch0 ++ Reg.ofChan .ch1 ++ Reg.ofChan .ch2 ++
  [.multiTrig, .status, .resClaim] ++
  [.genEnable, .genParam .h, .genParam .v, .genParam .p, .pixTxf, .genStatus, .imemUsed] ++
  [.seqCfg .fbBase, .seqCfg .fbLen, .seqCfg .ptrAddr, .seqCfg .paramH, .seqCfg .paramV, .seqCfg .paramP,
   .seqCfg .pins, .seqCtrl, .seqStatus]

/-- The register at an offset, if the offset is defined (30_encoding.md R127, R129). -/
def Reg.ofOffset? (off : BitVec 12) : Option Reg := Reg.all.find? fun r => r.offset == off

/-- The header of an access: W in bit 15, bit 14 zero, SZ in bits 13:12, OFF in bits 11:0 (30_encoding.md R121). -/
def mkHeader (w : Bool) (sz : Size) (off : BitVec 12) : BitVec 16 := BitVec.ofBool w ++ 0#1 ++ sz.code ++ off

/-- The word write of a register, and the three sizes of a write of `PIX_TXF` (30_encoding.md R127, R130; opcode table). -/
def Reg.writeInstr (r : Reg) (sz : Size) (v : Word) : Instr :=
  match r with
  | .chReadAddr .ch0 => .wrCh0ReadAddr v
  | .chWriteAddr .ch0 => .wrCh0WriteAddr v
  | .chTransCount .ch0 => .wrCh0TransCount v
  | .chCtrl .ch0 => .wrCh0Ctrl v
  | .chReadAddr .ch1 => .wrCh1ReadAddr v
  | .chWriteAddr .ch1 => .wrCh1WriteAddr v
  | .chTransCount .ch1 => .wrCh1TransCount v
  | .chCtrl .ch1 => .wrCh1Ctrl v
  | .chReadAddr .ch2 => .wrCh2ReadAddr v
  | .chWriteAddr .ch2 => .wrCh2WriteAddr v
  | .chTransCount .ch2 => .wrCh2TransCount v
  | .chCtrl .ch2 => .wrCh2Ctrl v
  | .multiTrig => .wrMultiTrig v
  | .status => .wrStatus v
  | .resClaim => .wrResClaim v
  | .genEnable => .wrGenEnable v
  | .genParam .h => .wrGenParamH v
  | .genParam .v => .wrGenParamV v
  | .genParam .p => .wrGenParamP v
  | .pixTxf =>
    match sz with
    | .byte => .wrPixTxfB v
    | .half => .wrPixTxfH v
    | .word => .wrPixTxfW v
  | .genStatus => .wrGenStatus v
  | .imemUsed => .wrImemUsed v
  | .seqCfg .fbBase => .wrSeqFbBase v
  | .seqCfg .fbLen => .wrSeqFbLen v
  | .seqCfg .ptrAddr => .wrSeqPtrAddr v
  | .seqCfg .paramH => .wrSeqParamH v
  | .seqCfg .paramV => .wrSeqParamV v
  | .seqCfg .paramP => .wrSeqParamP v
  | .seqCfg .pins => .wrSeqPins v
  | .seqCtrl => .wrSeqCtrl v
  | .seqStatus => .wrSeqStatus v

/-- The read of a register (30_encoding.md R127, R130; opcode table). -/
def Reg.readInstr (r : Reg) : Instr :=
  match r with
  | .chReadAddr .ch0 => .rdCh0ReadAddr
  | .chWriteAddr .ch0 => .rdCh0WriteAddr
  | .chTransCount .ch0 => .rdCh0TransCount
  | .chCtrl .ch0 => .rdCh0Ctrl
  | .chReadAddr .ch1 => .rdCh1ReadAddr
  | .chWriteAddr .ch1 => .rdCh1WriteAddr
  | .chTransCount .ch1 => .rdCh1TransCount
  | .chCtrl .ch1 => .rdCh1Ctrl
  | .chReadAddr .ch2 => .rdCh2ReadAddr
  | .chWriteAddr .ch2 => .rdCh2WriteAddr
  | .chTransCount .ch2 => .rdCh2TransCount
  | .chCtrl .ch2 => .rdCh2Ctrl
  | .multiTrig => .rdMultiTrig
  | .status => .rdStatus
  | .resClaim => .rdResClaim
  | .genEnable => .rdGenEnable
  | .genParam .h => .rdGenParamH
  | .genParam .v => .rdGenParamV
  | .genParam .p => .rdGenParamP
  | .pixTxf => .rdPixTxf
  | .genStatus => .rdGenStatus
  | .imemUsed => .rdImemUsed
  | .seqCfg .fbBase => .rdSeqFbBase
  | .seqCfg .fbLen => .rdSeqFbLen
  | .seqCfg .ptrAddr => .rdSeqPtrAddr
  | .seqCfg .paramH => .rdSeqParamH
  | .seqCfg .paramV => .rdSeqParamV
  | .seqCfg .paramP => .rdSeqParamP
  | .seqCfg .pins => .rdSeqPins
  | .seqCtrl => .rdSeqCtrl
  | .seqStatus => .rdSeqStatus

/-- The decoder of 30_encoding.md R130, total on every transaction; the checks stand in that rule's order
(60_exceptions.md R319). A rejection is the host-access fault of that name. -/
def decode (t : Transaction) : Except HostFaultKind Instr :=
  let w := t.hdr.getLsbD 15
  let off := t.hdr.extractLsb' 0 12
  match t.hdr.getLsbD 14, Size.ofCode? (t.hdr.extractLsb' 12 2) with
  | true, _ => .error .illegalHeader
  | false, none => .error .illegalHeader
  | false, some sz =>
    if w = false ∧ sz ≠ .word then .error .narrowRead
    else
      match Reg.ofOffset? off with
      | none => .error .undefinedOffset
      | some r =>
        if w = true ∧ sz ≠ .word ∧ r ≠ .pixTxf then .error .narrowWrite
        else if w = true then .ok (r.writeInstr sz (narrow sz t.data))
        else .ok r.readInstr

/-- An instruction's direction and operand: a read, or a write of a size and a value (30_encoding.md R121, R123). -/
inductive Access where
  | read
  | write (sz : Size) (v : Word)
deriving DecidableEq, Repr

/-- The register an instruction accesses, and how (30_encoding.md R127; opcode table). -/
def Instr.access : Instr → Reg × Access
  | .wrCh0ReadAddr v => (.chReadAddr .ch0, .write .word v)
  | .rdCh0ReadAddr => (.chReadAddr .ch0, .read)
  | .wrCh0WriteAddr v => (.chWriteAddr .ch0, .write .word v)
  | .rdCh0WriteAddr => (.chWriteAddr .ch0, .read)
  | .wrCh0TransCount v => (.chTransCount .ch0, .write .word v)
  | .rdCh0TransCount => (.chTransCount .ch0, .read)
  | .wrCh0Ctrl v => (.chCtrl .ch0, .write .word v)
  | .rdCh0Ctrl => (.chCtrl .ch0, .read)
  | .wrCh1ReadAddr v => (.chReadAddr .ch1, .write .word v)
  | .rdCh1ReadAddr => (.chReadAddr .ch1, .read)
  | .wrCh1WriteAddr v => (.chWriteAddr .ch1, .write .word v)
  | .rdCh1WriteAddr => (.chWriteAddr .ch1, .read)
  | .wrCh1TransCount v => (.chTransCount .ch1, .write .word v)
  | .rdCh1TransCount => (.chTransCount .ch1, .read)
  | .wrCh1Ctrl v => (.chCtrl .ch1, .write .word v)
  | .rdCh1Ctrl => (.chCtrl .ch1, .read)
  | .wrCh2ReadAddr v => (.chReadAddr .ch2, .write .word v)
  | .rdCh2ReadAddr => (.chReadAddr .ch2, .read)
  | .wrCh2WriteAddr v => (.chWriteAddr .ch2, .write .word v)
  | .rdCh2WriteAddr => (.chWriteAddr .ch2, .read)
  | .wrCh2TransCount v => (.chTransCount .ch2, .write .word v)
  | .rdCh2TransCount => (.chTransCount .ch2, .read)
  | .wrCh2Ctrl v => (.chCtrl .ch2, .write .word v)
  | .rdCh2Ctrl => (.chCtrl .ch2, .read)
  | .wrMultiTrig v => (.multiTrig, .write .word v)
  | .rdMultiTrig => (.multiTrig, .read)
  | .wrStatus v => (.status, .write .word v)
  | .rdStatus => (.status, .read)
  | .wrResClaim v => (.resClaim, .write .word v)
  | .rdResClaim => (.resClaim, .read)
  | .wrGenEnable v => (.genEnable, .write .word v)
  | .rdGenEnable => (.genEnable, .read)
  | .wrGenParamH v => (.genParam .h, .write .word v)
  | .rdGenParamH => (.genParam .h, .read)
  | .wrGenParamV v => (.genParam .v, .write .word v)
  | .rdGenParamV => (.genParam .v, .read)
  | .wrGenParamP v => (.genParam .p, .write .word v)
  | .rdGenParamP => (.genParam .p, .read)
  | .wrPixTxfB v => (.pixTxf, .write .byte v)
  | .wrPixTxfH v => (.pixTxf, .write .half v)
  | .wrPixTxfW v => (.pixTxf, .write .word v)
  | .rdPixTxf => (.pixTxf, .read)
  | .wrGenStatus v => (.genStatus, .write .word v)
  | .rdGenStatus => (.genStatus, .read)
  | .wrImemUsed v => (.imemUsed, .write .word v)
  | .rdImemUsed => (.imemUsed, .read)
  | .wrSeqFbBase v => (.seqCfg .fbBase, .write .word v)
  | .rdSeqFbBase => (.seqCfg .fbBase, .read)
  | .wrSeqFbLen v => (.seqCfg .fbLen, .write .word v)
  | .rdSeqFbLen => (.seqCfg .fbLen, .read)
  | .wrSeqPtrAddr v => (.seqCfg .ptrAddr, .write .word v)
  | .rdSeqPtrAddr => (.seqCfg .ptrAddr, .read)
  | .wrSeqParamH v => (.seqCfg .paramH, .write .word v)
  | .rdSeqParamH => (.seqCfg .paramH, .read)
  | .wrSeqParamV v => (.seqCfg .paramV, .write .word v)
  | .rdSeqParamV => (.seqCfg .paramV, .read)
  | .wrSeqParamP v => (.seqCfg .paramP, .write .word v)
  | .rdSeqParamP => (.seqCfg .paramP, .read)
  | .wrSeqPins v => (.seqCfg .pins, .write .word v)
  | .rdSeqPins => (.seqCfg .pins, .read)
  | .wrSeqCtrl v => (.seqCtrl, .write .word v)
  | .rdSeqCtrl => (.seqCtrl, .read)
  | .wrSeqStatus v => (.seqStatus, .write .word v)
  | .rdSeqStatus => (.seqStatus, .read)

/-- The transaction of an access: a write carries its value in the data word, a read carries 0 (30_encoding.md R121,
R122, R132). -/
def encodeAccess (r : Reg) : Access → Transaction
  | .read => ⟨mkHeader false .word r.offset, 0#32⟩
  | .write sz v => ⟨mkHeader true sz r.offset, v⟩

/-- The encoder: the header and the data word of an instruction (30_encoding.md R121, R127). -/
def encode (i : Instr) : Transaction := encodeAccess i.access.1 i.access.2

/-- The transaction whose 48 bits are the low `nbits` bits of `w`: the header is bits 15:0 and the data word bits 47:16,
every bit above `nbits` is zero (30_encoding.md R121, R125; assumption 23). -/
def transactionOfNat (nbits w : Nat) : Transaction :=
  let x := w % 2 ^ nbits
  ⟨BitVec.ofNat 16 x, BitVec.ofNat 32 (x / 2 ^ 16)⟩

/-- The instruction the decoder reads from a transaction given as a number. -/
def decodeTableWord (nbits w : Nat) : Option Instr := (decode (transactionOfNat nbits w)).toOption

end Sys2Proof
end

