-- ==== Sys2Proof/Machine/State.lean ====
section
/-! DEFINITION. The state of the SDB as plain data (10_state.md R30 to R68), the reasons a step can stop, and the state
after power-on reset (10_state.md R68; 70_reset_and_hazards.md R340). -/

namespace Sys2Proof.Machine

/-- `CH[n].PHASE`: which phase the channel's next element step is (10_state.md R46). -/
inductive Phase where
  | read
  | write
deriving DecidableEq, Repr, Inhabited

/-- One channel's register set (10_state.md R32 to R46). -/
structure Channel where
  /-- READ_ADDR, the live source address (R32). -/
  readAddr : Addr
  /-- WRITE_ADDR, the live destination address (R33). -/
  writeAddr : Addr
  /-- TC_RELOAD, the count the next trigger loads; hidden (R34). -/
  tcReload : Word
  /-- TC_REMAIN, the elements the current transfer still has to move (R35). -/
  tcRemain : Word
  /-- CTRL, with the fields of R36; read through the accessors of Machine/Flags.lean. -/
  ctrl : Word
  /-- PHASE; hidden (R46). -/
  phase : Phase
  /-- HOLD, the value the read phase fetched for the write phase; hidden (R46). -/
  hold : Word
deriving DecidableEq, Repr

/-- One timing generator as the block sees it (10_state.md R51, R52, R56, R66); its enable bit is in GEN_ENABLE. -/
structure Generator where
  /-- PARAM_Q[g], oldest entry first (R51). -/
  paramQ : List Word
  /-- LATCHED[g] (R52). -/
  latched : Bool
  /-- CNT_LOAD[g] (R52). -/
  cntLoad : Word
  /-- LOADED[g] (R56). -/
  loaded : Bool
  /-- EN_STEP[g], the step at which EN_g last rose; observation field (R66). -/
  enStep : Option Nat
deriving DecidableEq, Repr

/-- The values of SEQ_STATUS.STATE; the codes 8 to 14 never occur (10_state.md R61). -/
inductive SeqState where
  | idle
  | load
  | assign
  | config
  | param
  | enable
  | arm
  | running
  | failed
deriving DecidableEq, Repr, Inhabited

/-- The values of SEQ_STATUS.FAIL_CODE; the codes 4 to 15 never occur (10_state.md R61). -/
inductive FailCode where
  | noFailure
  | imemExhausted
  | smSlotUnavailable
  | channelUnavailable
deriving DecidableEq, Repr, Inhabited

/-- The entries of FAULTS (60_exceptions.md R311, R312). A host-access fault of a memory access has no header
(assumption 10). -/
inductive FaultEvent where
  | cfgErr (n : Chan)
  | readErr (n : Chan) (a : Addr)
  | writeErr (n : Chan) (a : Addr)
  | noprog (g : Gen)
  | doubleInit
  | hostFault (kind : HostFaultKind) (hdr : Option (BitVec 16))
deriving DecidableEq, Repr

/-- One access of the host's program: a BUS transaction, a memory load or store (30_encoding.md R120, R132;
20_memory.md R98), or one of the two polling loops of 30_encoding.md R133, which repeat their read until it lets them
go on (assumption 15). -/
inductive HostOp where
  | bus (t : Transaction)
  | load (a : Addr) (sz : Size)
  | store (a : Addr) (sz : Size) (v : Word)
  | waitIdle (n : Chan)
  | waitSeq
deriving DecidableEq, Repr

/-- What the host's last access got back: the MODEL's own field (assumption 7). A write is acknowledged, a read returns
its register's or memory's value (30_encoding.md R121), a host-access fault returns no value (60_exceptions.md R313). -/
inductive Response where
  | noAccess
  | ack
  | data (v : Word)
  | hostFault (kind : HostFaultKind)
deriving DecidableEq, Repr

/-- Memory: the bytes some agent has written since power-on, at strictly rising addresses (10_state.md R62). An address
with no entry holds no value; a read of it is answered by the read oracle (20_memory.md R93; assumption 3). -/
abbrev Memory := List Host.Cell

/-- The addresses of a list of cells rise strictly from at least `lo` and stay below 2^32. -/
def cellsRise (lo : Nat) : List Host.Cell → Bool
  | [] => true
  | c :: cs => decide (lo ≤ c.1) && decide (c.1 < 2 ^ 32) && cellsRise (c.1 + 1) cs

/-- The canonical form of memory: addresses strictly rising, each a 32-bit byte address (20_memory.md R90). What an
unlisted address reads as is no fixed byte, so every entry differs from it. -/
def Memory.wf (m : Memory) : Bool := cellsRise 0 m

/-- The machine's state (10_state.md R31), the parameters it is built with (00_scope.md R9), and the fields of the model
that say what the host does next and whose turn it is. -/
structure State where
  /-- The implementation parameters; no step changes them (00_scope.md R9; assumption 1). -/
  params : Params
  /-- CH[0], descriptor A (10_state.md R31 to R46). -/
  ch0 : Channel
  /-- CH[1], descriptor B. -/
  ch1 : Channel
  /-- CH[2], the memory-transfer channel M. -/
  ch2 : Channel
  /-- RES_CLAIM (R49). -/
  resClaim : Word
  /-- GEN_ENABLE (R50). -/
  genEnable : Word
  /-- The horizontal generator (R51, R52, R56, R66). -/
  genH : Generator
  /-- The vertical generator. -/
  genV : Generator
  /-- The pixel generator. -/
  genP : Generator
  /-- PIX_Q, oldest entry first (R53). -/
  pixQ : List Byte
  /-- PIX_TXOVER (R55). -/
  pixTxOver : Bool
  /-- PARAM_OVER (R55). -/
  paramOver : Bool
  /-- NOPROG_ERR (R55). -/
  noprogErr : Bool
  /-- IMEM_USED, 0 to 32 (R57). -/
  imemUsed : Word
  /-- SEQ_FB_BASE (R59). -/
  seqFbBase : Word
  /-- SEQ_FB_LEN (R59). -/
  seqFbLen : Word
  /-- SEQ_PTR_ADDR (R59). -/
  seqPtrAddr : Word
  /-- SEQ_PARAM_H (R59). -/
  seqParamH : Word
  /-- SEQ_PARAM_V (R59). -/
  seqParamV : Word
  /-- SEQ_PARAM_P (R59). -/
  seqParamP : Word
  /-- SEQ_PINS, opaque (R59; 45_startup_sequencer.md R283). -/
  seqPins : Word
  /-- SEQ_STATUS.STATE (R61). -/
  seqState : SeqState
  /-- SEQ_STATUS.FAIL_CODE (R61). -/
  failCode : FailCode
  /-- SEQ_STATUS.DOUBLE_START (R61). -/
  doubleStart : Bool
  /-- Memory (R62). -/
  mem : Memory
  /-- PIX_OUT, the bytes the pixel generator has taken, in order; observation field (R65). -/
  pixOut : List Byte
  /-- FAULTS, in the order of the run; observation field (R67). -/
  faults : List FaultEvent
  /-- The MODEL's own: the index of the step that is next in the run (assumption 8). -/
  stepNo : Nat
  /-- The MODEL's own: the agents whose turns come next; when it is empty `Config.schedule` chooses (assumption 4). -/
  sched : List Agent
  /-- The MODEL's own: the host's accesses still to come, in program order (assumption 6). -/
  hostQ : List HostOp
  /-- The MODEL's own: what the host's last access got back (assumption 7). -/
  resp : Response
deriving DecidableEq, Repr

/-- Why a step stops with a fault. It stands for no error the spec records: those are entries of FAULTS. -/
inductive Fault where
  /-- Raised by the step of a busy channel whose CTRL holds a reserved DATA_SIZE or CHAIN_TO: a trigger refuses such a
  CTRL (41_transfer_engine.md R172) and a write to a busy channel's CTRL changes only EN (40_channel_registers.md R156),
  so no run from reset reaches it. Safe (assumption 13). -/
  | busyReservedConfig (n : Chan)
deriving DecidableEq, Repr

/-- Why a step has no meaning. -/
inductive Refusal where
  /-- Raised by an arm of `exec` whose instruction has no meaning in the model yet; no arm uses it. Safe. -/
  | notModelled (mnemonic : String)
deriving DecidableEq, Repr

/-- Channel `n` after power-on: CTRL is `n << 8`, everything else zero (10_state.md R36, R68). -/
def Channel.atReset (n : Chan) : Channel where
  readAddr := 0#32
  writeAddr := 0#32
  tcReload := 0#32
  tcRemain := 0#32
  ctrl := BitVec.ofNat 32 n.index <<< 8
  phase := .read
  hold := 0#32

/-- A generator after power-on (10_state.md R68). -/
def Generator.atReset : Generator where
  paramQ := []
  latched := false
  cntLoad := 0#32
  loaded := false
  enStep := none

/-- The machine with parameters `p` right after power-on reset (10_state.md R68; 70_reset_and_hazards.md R340). -/
def State.powerOn (p : Params) : State where
  params := p
  ch0 := Channel.atReset .ch0
  ch1 := Channel.atReset .ch1
  ch2 := Channel.atReset .ch2
  resClaim := 0#32
  genEnable := 0#32
  genH := Generator.atReset
  genV := Generator.atReset
  genP := Generator.atReset
  pixQ := []
  pixTxOver := false
  paramOver := false
  noprogErr := false
  imemUsed := 0#32
  seqFbBase := 0#32
  seqFbLen := 0#32
  seqPtrAddr := 0#32
  seqParamH := 0#32
  seqParamV := 0#32
  seqParamP := 0#32
  seqPins := 0#32
  seqState := .idle
  failCode := .noFailure
  doubleStart := false
  mem := []
  pixOut := []
  faults := []
  stepNo := 0
  sched := []
  hostQ := []
  resp := .noAccess

/-- The machine right after power-on reset, with the example parameters of 95_test_vectors.md section 0 (assumption 1). -/
def State.reset : State := State.powerOn exampleParams

end Sys2Proof.Machine
end

