-- ==== Sys2Proof/Machine/Flags.lean ====
section
/-! DEFINITION. The fields of CTRL (10_state.md R36 to R45) and the status words that are views of the state: STATUS
(R48), GEN_STATUS (R54), SEQ_STATUS (R61). -/

namespace Sys2Proof.Machine

/-- The word with bit `i` set to `b` and every other bit kept. -/
def putBit (i : Nat) (b : Bool) (w : Word) : Word :=
  if b then w ||| (1#32 <<< i) else w &&& ~~~(1#32 <<< i)

/-- CTRL.EN, bit 0 (10_state.md R37). -/
def Ctrl.en (c : Word) : Bool := c.getLsbD 0

/-- CTRL.DATA_SIZE, bits 3:2 (R38). -/
def Ctrl.dataSize (c : Word) : BitVec 2 := c.extractLsb' 2 2

/-- CTRL.INCR_READ, bit 4 (R39). -/
def Ctrl.incrRead (c : Word) : Bool := c.getLsbD 4

/-- CTRL.INCR_WRITE, bit 5 (R40). -/
def Ctrl.incrWrite (c : Word) : Bool := c.getLsbD 5

/-- CTRL.CHAIN_TO, bits 10:8 (R41). -/
def Ctrl.chainTo (c : Word) : BitVec 3 := c.extractLsb' 8 3

/-- CTRL.TREQ_SEL, bits 13:12 (R42). -/
def Ctrl.treqSel (c : Word) : BitVec 2 := c.extractLsb' 12 2

/-- CTRL.BUSY, bit 24 (R43). -/
def Ctrl.busy (c : Word) : Bool := c.getLsbD 24

/-- CTRL.CFG_ERR, bit 29 (R44). -/
def Ctrl.cfgErr (c : Word) : Bool := c.getLsbD 29

/-- CTRL.READ_ERR, bit 30 (R44). -/
def Ctrl.readErr (c : Word) : Bool := c.getLsbD 30

/-- CTRL.WRITE_ERR, bit 31 (R44). -/
def Ctrl.writeErr (c : Word) : Bool := c.getLsbD 31

/-- Some error bit is set (R44). -/
def Ctrl.err (c : Word) : Bool := Ctrl.cfgErr c || Ctrl.readErr c || Ctrl.writeErr c

/-- CTRL with EN set to `b`. -/
def Ctrl.putEn (b : Bool) (c : Word) : Word := putBit 0 b c

/-- CTRL with BUSY set to `b`. -/
def Ctrl.putBusy (b : Bool) (c : Word) : Word := putBit 24 b c

/-- CTRL with CFG_ERR set. -/
def Ctrl.setCfgErr (c : Word) : Word := putBit 29 true c

/-- CTRL with READ_ERR set. -/
def Ctrl.setReadErr (c : Word) : Word := putBit 30 true c

/-- CTRL with WRITE_ERR set. -/
def Ctrl.setWriteErr (c : Word) : Word := putBit 31 true c

/-- The writable fields of CTRL: EN, DATA_SIZE, INCR_READ, INCR_WRITE, CHAIN_TO, TREQ_SEL (40_channel_registers.md R156). -/
def Ctrl.writeMask : Word := 0x0000373D#32

/-- CTRL after a write of `v`: all writable fields when idle, only EN when busy (40_channel_registers.md R156). -/
def Ctrl.written (c v : Word) : Word :=
  if Ctrl.busy c then Ctrl.putEn (v.getLsbD 0) c
  else (c &&& ~~~Ctrl.writeMask) ||| (v &&& Ctrl.writeMask)

/-- The element size DATA_SIZE names; 3 is reserved (10_state.md R38). -/
def Ctrl.size? (c : Word) : Option Size := Size.ofCode? (Ctrl.dataSize c)

/-- The channel CHAIN_TO names; 3 to 7 are reserved (10_state.md R41). -/
def Ctrl.chain? (c : Word) : Option Chan :=
  if Ctrl.chainTo c = 0#3 then some .ch0
  else if Ctrl.chainTo c = 1#3 then some .ch1
  else if Ctrl.chainTo c = 2#3 then some .ch2
  else none

/-- `config_legal` (41_transfer_engine.md R172): DATA_SIZE is not 3, CHAIN_TO is at most 2, TREQ_SEL is at most 1. -/
def Ctrl.configLegal (c : Word) : Bool :=
  decide (Ctrl.dataSize c ≠ 3#2) && decide (Ctrl.chainTo c ≤ 2#3) && decide (Ctrl.treqSel c ≤ 1#2)

/-- STATUS: BUSY[n] in bits 2:0, ERR[n] in bits 10:8 (10_state.md R48; 40_channel_registers.md R161). -/
def statusWord (s : State) : Word :=
  0#21 ++ BitVec.ofBool (Ctrl.err s.ch2.ctrl) ++ BitVec.ofBool (Ctrl.err s.ch1.ctrl) ++
  BitVec.ofBool (Ctrl.err s.ch0.ctrl) ++ 0#5 ++ BitVec.ofBool (Ctrl.busy s.ch2.ctrl) ++
  BitVec.ofBool (Ctrl.busy s.ch1.ctrl) ++ BitVec.ofBool (Ctrl.busy s.ch0.ctrl)

/-- GEN_STATUS (10_state.md R54). A level is the length's low 4 or 3 bits; lengths stay within the queues' capacities,
so no bit is lost (assumption 18). -/
def genStatusWord (s : State) : Word :=
  0#5 ++ BitVec.ofNat 3 s.genP.paramQ.length ++ 0#1 ++ BitVec.ofNat 3 s.genV.paramQ.length ++ 0#1 ++
  BitVec.ofNat 3 s.genH.paramQ.length ++ 0#1 ++
  BitVec.ofBool s.genP.loaded ++ BitVec.ofBool s.genV.loaded ++ BitVec.ofBool s.genH.loaded ++ 0#1 ++
  BitVec.ofBool s.genP.latched ++ BitVec.ofBool s.genV.latched ++ BitVec.ofBool s.genH.latched ++
  BitVec.ofBool s.noprogErr ++ BitVec.ofBool s.paramOver ++ BitVec.ofBool s.pixTxOver ++
  BitVec.ofBool (decide (s.pixQ.length = s.params.pixDepth)) ++ BitVec.ofNat 4 s.pixQ.length

/-- The code of SEQ_STATUS.STATE (10_state.md R61). -/
def SeqState.code : SeqState → BitVec 4
  | .idle => 0#4
  | .load => 1#4
  | .assign => 2#4
  | .config => 3#4
  | .param => 4#4
  | .enable => 5#4
  | .arm => 6#4
  | .running => 7#4
  | .failed => 15#4

/-- The code of SEQ_STATUS.FAIL_CODE (10_state.md R61). -/
def FailCode.code : FailCode → BitVec 4
  | .noFailure => 0#4
  | .imemExhausted => 1#4
  | .smSlotUnavailable => 2#4
  | .channelUnavailable => 3#4

/-- SEQ_STATUS: DOUBLE_START in bit 16, FAIL_CODE in bits 11:8, STATE in bits 3:0 (45_startup_sequencer.md R286). -/
def seqStatusWord (s : State) : Word :=
  0#15 ++ BitVec.ofBool s.doubleStart ++ 0#4 ++ s.failCode.code ++ 0#4 ++ s.seqState.code

end Sys2Proof.Machine
end

