-- ==== Sys2Proof/Machine/Operands.lean ====
section
/-! DEFINITION. Access sizes, alignment and address decoding (20_memory.md R90 to R97), and the bytes of a value (R91). -/

namespace Sys2Proof.Machine

/-- An access is aligned when its address is a multiple of its size (20_memory.md R97). -/
def aligned (a : Addr) (sz : Size) : Bool := decide (a.toNat % sz.bytes = 0)

/-- The address `a + i`, modulo 2^32 (20_memory.md R92). -/
def addrAt (a : Addr) (i : Nat) : Addr := a + BitVec.ofNat 32 i

/-- The bytes of a value's low `8 * s` bits, the one for the lowest address first (20_memory.md R91, R92). -/
def bytesOf : Size → Word → List Byte
  | .byte, v => [v.extractLsb' 0 8]
  | .half, v => [v.extractLsb' 0 8, v.extractLsb' 8 8]
  | .word, v => [v.extractLsb' 0 8, v.extractLsb' 8 8, v.extractLsb' 16 8, v.extractLsb' 24 8]

/-- The value of `s` bytes, the lowest address's byte in bits 7:0, zero-extended (20_memory.md R91, R92). -/
def wordOf : Size → (Nat → Byte) → Word
  | .byte, b => 0#24 ++ b 0
  | .half, b => 0#16 ++ b 1 ++ b 0
  | .word, b => b 3 ++ b 2 ++ b 1 ++ b 0

/-- The address lies in the 4 KiB register window (20_memory.md R90). -/
def inWindow (p : Params) (a : Addr) : Bool := decide ((a - p.sdbBase).toNat < 0x1000)

/-- The offset of a window address (20_memory.md R94). -/
def windowOffset (p : Params) (a : Addr) : BitVec 12 := (a - p.sdbBase).setWidth 12

/-- `MEM_MAP(a)` (00_scope.md R9). -/
def memMapped (p : Params) (a : Addr) : Bool :=
  p.memMap.any fun r => decide (r.base ≤ a.toNat) && decide (a.toNat < r.base + r.size)

/-- `MEM_MAP(a + i)` for every byte `i` of the access (20_memory.md R92, R94). -/
def allMapped (p : Params) (a : Addr) (sz : Size) : Bool :=
  (List.range sz.bytes).all fun i => memMapped p (addrAt a i)

/-- `legal_reg` (20_memory.md R95): the register at a defined offset, if an access of this size and direction may reach
it; `write` says which direction. -/
def legalReg? (off : BitVec 12) (sz : Size) (write : Bool) : Option Reg :=
  match Reg.ofOffset? off with
  | none => none
  | some r => if sz = .word ∨ (write = true ∧ r = .pixTxf) then some r else none

end Sys2Proof.Machine
end

