-- ==== Sys2Proof/Machine/Memory.lean ====
section
/-! DEFINITION. Memory as a sorted list of written bytes (10_state.md R62; 20_memory.md R92, R93). -/

namespace Sys2Proof.Machine

/-- The byte at an address, if some agent has written it (10_state.md R62). -/
def Memory.read? : Memory → Nat → Option Byte
  | [], _ => none
  | c :: cs, a => if c.1 = a then some c.2 else Memory.read? cs a

/-- Memory with the byte at an address set; the list stays sorted. -/
def Memory.write : Memory → Nat → Byte → Memory
  | [], a, b => [(a, b)]
  | c :: cs, a, b =>
    if a < c.1 then (a, b) :: c :: cs
    else if a = c.1 then (a, b) :: cs
    else c :: Memory.write cs a b

/-- Memory with bytes stored at `a`, `a + 1`, ..., addresses modulo 2^32 (20_memory.md R92). -/
def Memory.writeBytes : Memory → Addr → List Byte → Memory
  | m, _, [] => m
  | m, a, b :: bs => Memory.writeBytes (m.write a.toNat b) (addrAt a 1) bs

/-- The byte an agent's step reads at an address: the byte written there, or the read oracle's draw for this step
(20_memory.md R93; assumption 3). -/
def readByte (s : State) (a : Addr) : Byte := (s.mem.read? a.toNat).getD (Config.readOracle s.stepNo a)

/-- `MemRead(a, s)` (20_memory.md R92). -/
def memRead (a : Addr) (sz : Size) (s : State) : Word := wordOf sz fun i => readByte s (addrAt a i)

/-- `MemWrite(a, s, v)` (20_memory.md R92). -/
def memWrite (a : Addr) (sz : Size) (v : Word) (s : State) : State :=
  { s with mem := s.mem.writeBytes a (bytesOf sz v) }

end Sys2Proof.Machine
end

