-- ==== Sys2Proof/Machine/Ops.lean ====
section
/-! DEFINITION. The shared operations: access to channels and generators, recording an error (60_exceptions.md R311,
R312), the channel trigger (41_transfer_engine.md R171), one operation per register-operation rule (R150 to R163, R241 to
R253, R281 to R287), and the decoded bus accesses every agent uses (20_memory.md R96). -/

namespace Sys2Proof.Machine

/-! ### Channels and generators by name -/

/-- `CH[n]`. -/
def State.ch (s : State) : Chan → Channel
  | .ch0 => s.ch0
  | .ch1 => s.ch1
  | .ch2 => s.ch2

/-- `CH[n] <- c`. -/
def State.setCh (n : Chan) (c : Channel) (s : State) : State :=
  { s with
    ch0 := if n = .ch0 then c else s.ch0
    ch1 := if n = .ch1 then c else s.ch1
    ch2 := if n = .ch2 then c else s.ch2 }

/-- Generator `g`. -/
def State.gen (s : State) : Gen → Generator
  | .h => s.genH
  | .v => s.genV
  | .p => s.genP

/-- Generator `g` replaced. -/
def State.setGen (g : Gen) (x : Generator) (s : State) : State :=
  { s with
    genH := if g = .h then x else s.genH
    genV := if g = .v then x else s.genV
    genP := if g = .p then x else s.genP }

/-- `CH[n].CTRL` changed by `f`. -/
def State.modCtrl (n : Chan) (f : Word → Word) (s : State) : State :=
  s.setCh n { s.ch n with ctrl := f (s.ch n).ctrl }

/-! ### Recording an error

The SDB takes no trap: no state is saved and control goes nowhere (60_exceptions.md R310, R318), so there is no return
from one either. What an error does is its row of R311. -/

/-- The state change of an error's row in 60_exceptions.md R311, without its entry in FAULTS. -/
def errorEffect (e : FaultEvent) (s : State) : State :=
  match e with
  | .cfgErr n => s.modCtrl n Ctrl.setCfgErr
  | .readErr n _ => s.modCtrl n fun c => Ctrl.putBusy false (Ctrl.setReadErr c)
  | .writeErr n _ => s.modCtrl n fun c => Ctrl.putBusy false (Ctrl.setWriteErr c)
  | .noprog _ => { s with noprogErr := true }
  | .doubleInit => { s with doubleStart := true }
  | .hostFault _ _ => s

/-- `raise X(info)` (00_scope.md R12; 60_exceptions.md R312): the state change of the row, then the entry at the end of
FAULTS. -/
def raiseEvent (e : FaultEvent) (s : State) : State :=
  { errorEffect e s with faults := s.faults ++ [e] }

/-- A host-access fault (60_exceptions.md R313): no SDB state changes, the read returns no value, FAULTS gets the entry. -/
def hostFault (kind : HostFaultKind) (hdr : Option (BitVec 16)) (s : State) : State :=
  { raiseEvent (.hostFault kind hdr) s with resp := .hostFault kind }

/-! ### Trigger -/

/-- `Trigger(n)` (41_transfer_engine.md R171), its six cases in order. -/
def trigger (n : Chan) (s : State) : State :=
  if Ctrl.busy (s.ch n).ctrl then s
  else if Ctrl.err (s.ch n).ctrl then s
  else if Ctrl.en (s.ch n).ctrl = false then s
  else if Ctrl.configLegal (s.ch n).ctrl = false then raiseEvent (.cfgErr n) s
  else if (s.ch n).tcReload = 0#32 then s.setCh n { s.ch n with tcRemain := 0#32 }
  else
    s.setCh n
      { s.ch n with
        tcRemain := (s.ch n).tcReload
        phase := .read
        ctrl := Ctrl.putBusy true (s.ch n).ctrl }

/-! ### Channel register operations (40_channel_registers.md) -/

/-- `WR.CH.READ_ADDR` (R150). -/
def wrChReadAddr (n : Chan) (v : Word) (s : State) : State := s.setCh n { s.ch n with readAddr := v }

/-- `RD.CH.READ_ADDR` (R151). -/
def rdChReadAddr (n : Chan) (s : State) : Word := (s.ch n).readAddr

/-- `WR.CH.WRITE_ADDR` (R152). -/
def wrChWriteAddr (n : Chan) (v : Word) (s : State) : State := s.setCh n { s.ch n with writeAddr := v }

/-- `RD.CH.WRITE_ADDR` (R153). -/
def rdChWriteAddr (n : Chan) (s : State) : Word := (s.ch n).writeAddr

/-- `WR.CH.TRANS_COUNT` (R154): only the reload value changes. -/
def wrChTransCount (n : Chan) (v : Word) (s : State) : State := s.setCh n { s.ch n with tcReload := v }

/-- `RD.CH.TRANS_COUNT` (R155): the remaining count. -/
def rdChTransCount (n : Chan) (s : State) : Word := (s.ch n).tcRemain

/-- `WR.CH.CTRL` (R156). -/
def wrChCtrl (n : Chan) (v : Word) (s : State) : State := s.modCtrl n fun c => Ctrl.written c v

/-- `RD.CH.CTRL` (R157). -/
def rdChCtrl (n : Chan) (s : State) : Word := (s.ch n).ctrl

/-! ### Global register operations (40_channel_registers.md) -/

/-- One channel's part of `WR.MULTI_TRIG` (R158). -/
def triggerIf (b : Bool) (n : Chan) (s : State) : State := if b then trigger n s else s

/-- `WR.MULTI_TRIG` (R158): the named channels are triggered in ascending order within the one step. -/
def wrMultiTrig (v : Word) (s : State) : State :=
  triggerIf (v.getLsbD 2) .ch2 (triggerIf (v.getLsbD 1) .ch1 (triggerIf (v.getLsbD 0) .ch0 s))

/-- `RD.MULTI_TRIG` (R159). -/
def rdMultiTrig (_s : State) : Word := 0#32

/-- `WR.STATUS` (R160): no state changes. -/
def wrStatus (_v : Word) (s : State) : State := s

/-- `RD.STATUS` (R161). -/
def rdStatus (s : State) : Word := statusWord s

/-- The bits RES_CLAIM holds (R162). -/
def resClaimMask : Word := 0x000000F7#32

/-- `WR.RES_CLAIM` (R162). -/
def wrResClaim (v : Word) (s : State) : State := { s with resClaim := v &&& resClaimMask }

/-- `RD.RES_CLAIM` (R163). -/
def rdResClaim (s : State) : Word := s.resClaim

/-! ### Timing-generator register operations (44_timing_generators.md) -/

/-- `EN_g` (10_state.md R50). -/
def genEnabled (s : State) (g : Gen) : Bool := s.genEnable.getLsbD g.index

/-- Generator `g`'s enable bit goes from 0 to 1. -/
def enableRises (old new : Word) (g : Gen) : Bool := new.getLsbD g.index && !old.getLsbD g.index

/-- The NOPROG check of R241 for one generator. -/
def noprogCheck (old new : Word) (g : Gen) (s : State) : State :=
  if enableRises old new g = true ∧ (s.gen g).loaded = false then raiseEvent (.noprog g) s else s

/-- The EN_STEP record of R241 for one generator. -/
def markEnabled (old new : Word) (g : Gen) (s : State) : State :=
  if enableRises old new g then s.setGen g { s.gen g with enStep := some s.stepNo } else s

/-- The bits GEN_ENABLE holds (10_state.md R50). -/
def genEnableMask : Word := 0x00000007#32

/-- `WR.GEN_ENABLE` (R241): the NOPROG checks in the order H, V, P, then all three enables at once, then EN_STEP. -/
def wrGenEnable (v : Word) (s : State) : State :=
  let old := s.genEnable
  let new := v &&& genEnableMask
  let checked := noprogCheck old new .p (noprogCheck old new .v (noprogCheck old new .h s))
  markEnabled old new .p (markEnabled old new .v (markEnabled old new .h { checked with genEnable := new }))

/-- `RD.GEN_ENABLE` (R243). -/
def rdGenEnable (s : State) : Word := s.genEnable

/-- `WR.GEN_PARAM` (R244): a full queue drops the value and sets PARAM_OVER. -/
def wrGenParam (g : Gen) (v : Word) (s : State) : State :=
  if (s.gen g).paramQ.length < s.params.paramDepth then
    s.setGen g { s.gen g with paramQ := (s.gen g).paramQ ++ [v] }
  else { s with paramOver := true }

/-- `RD.GEN_PARAM` (R245). -/
def rdGenParam (_g : Gen) (_s : State) : Word := 0#32

/-- `WR.PIX_TXF` (R246): one entry whatever the size, holding bits 7:0; a full queue drops it and sets PIX_TXOVER. -/
def wrPixTxf (v : Word) (s : State) : State :=
  if s.pixQ.length < s.params.pixDepth then { s with pixQ := s.pixQ ++ [v.extractLsb' 0 8] }
  else { s with pixTxOver := true }

/-- `RD.PIX_TXF` (R247). -/
def rdPixTxf (_s : State) : Word := 0#32

/-- `WR.GEN_STATUS` (R253): no state changes. -/
def wrGenStatus (_v : Word) (s : State) : State := s

/-- `RD.GEN_STATUS` (R251). -/
def rdGenStatus (s : State) : Word := genStatusWord s

/-- `WR.IMEM_USED` (R248): `min(v, 32)` while the sequencer is IDLE, otherwise ignored. -/
def wrImemUsed (v : Word) (s : State) : State :=
  if s.seqState = .idle then { s with imemUsed := if v ≤ 32#32 then v else 32#32 } else s

/-- `RD.IMEM_USED` (R249). -/
def rdImemUsed (s : State) : Word := s.imemUsed

/-! ### Start-up sequencer register operations (45_startup_sequencer.md) -/

/-- The sequencer configuration register `r` set to `v`. -/
def setSeqCfg (r : SeqCfg) (v : Word) (s : State) : State :=
  match r with
  | .fbBase => { s with seqFbBase := v }
  | .fbLen => { s with seqFbLen := v }
  | .ptrAddr => { s with seqPtrAddr := v }
  | .paramH => { s with seqParamH := v }
  | .paramV => { s with seqParamV := v }
  | .paramP => { s with seqParamP := v }
  | .pins => { s with seqPins := v }

/-- `WR.SEQ_CFG` (R282): only while the sequencer is IDLE. -/
def wrSeqCfg (r : SeqCfg) (v : Word) (s : State) : State := if s.seqState = .idle then setSeqCfg r v s else s

/-- `RD.SEQ_CFG` (R281). -/
def rdSeqCfg (r : SeqCfg) (s : State) : Word :=
  match r with
  | .fbBase => s.seqFbBase
  | .fbLen => s.seqFbLen
  | .ptrAddr => s.seqPtrAddr
  | .paramH => s.seqParamH
  | .paramV => s.seqParamV
  | .paramP => s.seqParamP
  | .pins => s.seqPins

/-- `WR.SEQ_CTRL` (R284): START in IDLE begins the sequence, START anywhere else raises DOUBLE_INIT. -/
def wrSeqCtrl (v : Word) (s : State) : State :=
  if v.getLsbD 0 then
    if s.seqState = .idle then { s with seqState := .load } else raiseEvent .doubleInit s
  else s

/-- `RD.SEQ_CTRL` (R285). -/
def rdSeqCtrl (_s : State) : Word := 0#32

/-- `WR.SEQ_STATUS` (R287): no state changes. -/
def wrSeqStatus (_v : Word) (s : State) : State := s

/-- `RD.SEQ_STATUS` (R286). -/
def rdSeqStatus (s : State) : Word := seqStatusWord s

/-! ### The host's answer -/

/-- The host's write is done: its answer is an acknowledgement (assumption 7). -/
def acked (s : State) : State := { s with resp := .ack }

/-- The host's read returns `v`; nothing else changes (20_memory.md R100; 30_encoding.md R121). -/
def returned (v : Word) (s : State) : State := { s with resp := .data v }

/-! ### Decoded accesses (20_memory.md R96) -/

/-- `RegRead(off)`: the RD rule of a register (20_memory.md R96; 40_channel_registers.md R164). -/
def regRead (r : Reg) (s : State) : Word :=
  match r with
  | .chReadAddr n => rdChReadAddr n s
  | .chWriteAddr n => rdChWriteAddr n s
  | .chTransCount n => rdChTransCount n s
  | .chCtrl n => rdChCtrl n s
  | .multiTrig => rdMultiTrig s
  | .status => rdStatus s
  | .resClaim => rdResClaim s
  | .genEnable => rdGenEnable s
  | .genParam g => rdGenParam g s
  | .pixTxf => rdPixTxf s
  | .genStatus => rdGenStatus s
  | .imemUsed => rdImemUsed s
  | .seqCfg c => rdSeqCfg c s
  | .seqCtrl => rdSeqCtrl s
  | .seqStatus => rdSeqStatus s

/-- `RegWrite(off, s, v)`: the WR rule of a register (20_memory.md R96; 40_channel_registers.md R164). The size matters
only for which accesses are legal: a narrow write reaches PIX_TXF alone, which takes bits 7:0 of the value (R246). -/
def regWrite (r : Reg) (v : Word) (s : State) : State :=
  match r with
  | .chReadAddr n => wrChReadAddr n v s
  | .chWriteAddr n => wrChWriteAddr n v s
  | .chTransCount n => wrChTransCount n v s
  | .chCtrl n => wrChCtrl n v s
  | .multiTrig => wrMultiTrig v s
  | .status => wrStatus v s
  | .resClaim => wrResClaim v s
  | .genEnable => wrGenEnable v s
  | .genParam g => wrGenParam g v s
  | .pixTxf => wrPixTxf v s
  | .genStatus => wrGenStatus v s
  | .imemUsed => wrImemUsed v s
  | .seqCfg c => wrSeqCfg c v s
  | .seqCtrl => wrSeqCtrl v s
  | .seqStatus => wrSeqStatus v s

/-- `BusRead(a, s)` (20_memory.md R94, R96): the value, or none where the access is illegal or unmapped. -/
def busRead (a : Addr) (sz : Size) (s : State) : Option Word :=
  if inWindow s.params a then (legalReg? (windowOffset s.params a) sz false).map fun r => regRead r s
  else if allMapped s.params a sz then some (memRead a sz s)
  else none

/-- `BusWrite(a, s, v)` (20_memory.md R94, R96): the state after the write, or none where the access is illegal or
unmapped. -/
def busWrite (a : Addr) (sz : Size) (v : Word) (s : State) : Option State :=
  if inWindow s.params a then (legalReg? (windowOffset s.params a) sz true).map fun r => regWrite r v s
  else if allMapped s.params a sz then some (memWrite a sz v s)
  else none

end Sys2Proof.Machine
end

