-- ==== Sys2Proof/Machine/Engine.lean ====
section
/-! DEFINITION. The transfer engine (41_transfer_engine.md R175 to R187): the read and write phase of a channel's element,
completion and chaining. -/

namespace Sys2Proof.Machine

/-- `ready(n)` (R175): PERMANENT is always ready, DREQ_PIX while the pixel queue has room. -/
def chReady (n : Chan) (s : State) : Bool :=
  decide (Ctrl.treqSel (s.ch n).ctrl = 0#2) ||
    (decide (Ctrl.treqSel (s.ch n).ctrl = 1#2) && decide (s.pixQ.length < s.params.pixDepth))

/-- Agent `CHn` has an enabled step (R176). -/
def chEnabled (n : Chan) (s : State) : Bool :=
  Ctrl.busy (s.ch n).ctrl && Ctrl.en (s.ch n).ctrl && (decide ((s.ch n).phase = .write) || chReady n s)

/-- `CH.READ`, the read phase of one element of size `sz` (R177, R178). DEDUCED (assumption 17): the
non-aligned pointer-cell value of 70_reset_and_hazards.md R369 is one that is not aligned for A's element size (20_memory.md
R97); it kills the chain here, and a byte read, A's as descriptor A, is aligned at every address (42_scanout_chain.md R213). -/
def chReadPhase (n : Chan) (sz : Size) (s : State) : State :=
  if aligned (s.ch n).readAddr sz = false then raiseEvent (.readErr n (s.ch n).readAddr) s
  else
    match busRead (s.ch n).readAddr sz s with
    | none => raiseEvent (.readErr n (s.ch n).readAddr) s
    | some x => s.setCh n { s.ch n with hold := x, phase := .write }

/-- `complete(n)` (R182): BUSY falls, and CHAIN_TO, if it names another channel, is triggered in the same step. -/
def complete (n : Chan) (s : State) : State :=
  let idle := s.modCtrl n (Ctrl.putBusy false)
  match Ctrl.chain? (s.ch n).ctrl with
  | some m => if m = n then idle else trigger m idle
  | none => idle

/-- The channel's registers after an element of size `sz` is written: addresses advance modulo 2^32, the count falls by
one, the next phase is READ (R180, R186). -/
def advanced (sz : Size) (c : Channel) : Channel :=
  { c with
    readAddr := if Ctrl.incrRead c.ctrl then addrAt c.readAddr sz.bytes else c.readAddr
    writeAddr := if Ctrl.incrWrite c.ctrl then addrAt c.writeAddr sz.bytes else c.writeAddr
    tcRemain := c.tcRemain - 1#32
    phase := .read }

/-- The rest of the write phase after the element's write: the advance and, at the last element, completion (R180). -/
def finishElement (n : Chan) (sz : Size) (s : State) : State :=
  let c := advanced sz (s.ch n)
  if c.tcRemain = 0#32 then complete n (s.setCh n c) else s.setCh n c

/-- `CH.WRITE`, the write phase of one element of size `sz` (R179, R180). The registers the advance reads are those
after the element's write, which may have been to this channel's own registers (40_channel_registers.md R164). -/
def chWritePhase (n : Chan) (sz : Size) (s : State) : State :=
  if aligned (s.ch n).writeAddr sz = false then raiseEvent (.writeErr n (s.ch n).writeAddr) s
  else
    match busWrite (s.ch n).writeAddr sz (s.ch n).hold s with
    | none => raiseEvent (.writeErr n (s.ch n).writeAddr) s
    | some written => finishElement n sz written

/-- The turn of agent `CHn`: its phase's step where it has one (R176), nothing where it has none. A busy channel with a
reserved size or chain field, which no run reaches, is a fault (assumption 13). -/
def chStep (n : Chan) (s : State) : Host.Outcome State Fault Refusal :=
  if chEnabled n s = false then .next s
  else
    match Ctrl.size? (s.ch n).ctrl, Ctrl.chain? (s.ch n).ctrl with
    | some sz, some _ =>
      match (s.ch n).phase with
      | .read => .next (chReadPhase n sz s)
      | .write => .next (chWritePhase n sz s)
    | _, _ => .fault (.busyReservedConfig n)

end Sys2Proof.Machine
end

