-- ==== Sys2Proof/Machine/Generators.lean ====
section
/-! DEFINITION. The timing generators' steps the block sees: the parameter latch (44_timing_generators.md R250) and the
pixel generator's consumption (R252). -/

namespace Sys2Proof.Machine

/-- `GEN.LATCH` of generator `g` is enabled (R250). -/
def latchEnabled (g : Gen) (s : State) : Bool :=
  genEnabled s g && (s.gen g).loaded && !(s.gen g).latched && decide (0 < (s.gen g).paramQ.length)

/-- `GEN.LATCH` (R250): the oldest parameter is taken, once per power-on. -/
def genLatch (g : Gen) (s : State) : State :=
  s.setGen g
    { s.gen g with
      cntLoad := (s.gen g).paramQ.headD 0#32
      paramQ := (s.gen g).paramQ.tail
      latched := true }

/-- `GEN.PIXPOP` is enabled (R252). -/
def pixPopEnabled (s : State) : Bool :=
  genEnabled s .p && s.genP.loaded && s.genP.latched && decide (0 < s.pixQ.length)

/-- `GEN.PIXPOP` (R252): the oldest pixel byte leaves the queue for the display. -/
def pixPop (s : State) : State := { s with pixQ := s.pixQ.tail, pixOut := s.pixOut ++ s.pixQ.take 1 }

/-- The turn of agent `GEN_g`: the latch, for P the consumption, or nothing where neither is enabled. -/
def genStep (g : Gen) (s : State) : State :=
  if latchEnabled g s then genLatch g s
  else if g = .p ∧ pixPopEnabled s = true then pixPop s
  else s

end Sys2Proof.Machine
end

