-- ==== Sys2Proof/Machine/ChannelRegs.lean ====
section
/-! DEFINITION. The meanings of the host's transactions on the channel registers (40_channel_registers.md R150 to R157): the
register operation of the rule, and the host's answer. Every one completes in every state (40_channel_registers.md R165;
60_exceptions.md R330). -/

namespace Sys2Proof.Machine

/-- `WR.CH0.READ_ADDR` (R150). -/
def execWrCh0ReadAddr (v : Word) (s : State) : Host.Outcome State Fault Refusal := .next (acked (wrChReadAddr .ch0 v s))

/-- `RD.CH0.READ_ADDR` (R151). -/
def execRdCh0ReadAddr (s : State) : Host.Outcome State Fault Refusal := .next (returned (rdChReadAddr .ch0 s) s)

/-- `WR.CH0.WRITE_ADDR` (R152). -/
def execWrCh0WriteAddr (v : Word) (s : State) : Host.Outcome State Fault Refusal := .next (acked (wrChWriteAddr .ch0 v s))

/-- `RD.CH0.WRITE_ADDR` (R153). -/
def execRdCh0WriteAddr (s : State) : Host.Outcome State Fault Refusal := .next (returned (rdChWriteAddr .ch0 s) s)

/-- `WR.CH0.TRANS_COUNT` (R154). -/
def execWrCh0TransCount (v : Word) (s : State) : Host.Outcome State Fault Refusal := .next (acked (wrChTransCount .ch0 v s))

/-- `RD.CH0.TRANS_COUNT` (R155). -/
def execRdCh0TransCount (s : State) : Host.Outcome State Fault Refusal := .next (returned (rdChTransCount .ch0 s) s)

/-- `WR.CH0.CTRL` (R156). -/
def execWrCh0Ctrl (v : Word) (s : State) : Host.Outcome State Fault Refusal := .next (acked (wrChCtrl .ch0 v s))

/-- `RD.CH0.CTRL` (R157). -/
def execRdCh0Ctrl (s : State) : Host.Outcome State Fault Refusal := .next (returned (rdChCtrl .ch0 s) s)

/-- `WR.CH1.READ_ADDR` (R150). -/
def execWrCh1ReadAddr (v : Word) (s : State) : Host.Outcome State Fault Refusal := .next (acked (wrChReadAddr .ch1 v s))

/-- `RD.CH1.READ_ADDR` (R151). -/
def execRdCh1ReadAddr (s : State) : Host.Outcome State Fault Refusal := .next (returned (rdChReadAddr .ch1 s) s)

/-- `WR.CH1.WRITE_ADDR` (R152). -/
def execWrCh1WriteAddr (v : Word) (s : State) : Host.Outcome State Fault Refusal := .next (acked (wrChWriteAddr .ch1 v s))

/-- `RD.CH1.WRITE_ADDR` (R153). -/
def execRdCh1WriteAddr (s : State) : Host.Outcome State Fault Refusal := .next (returned (rdChWriteAddr .ch1 s) s)

/-- `WR.CH1.TRANS_COUNT` (R154). -/
def execWrCh1TransCount (v : Word) (s : State) : Host.Outcome State Fault Refusal := .next (acked (wrChTransCount .ch1 v s))

/-- `RD.CH1.TRANS_COUNT` (R155). -/
def execRdCh1TransCount (s : State) : Host.Outcome State Fault Refusal := .next (returned (rdChTransCount .ch1 s) s)

/-- `WR.CH1.CTRL` (R156). -/
def execWrCh1Ctrl (v : Word) (s : State) : Host.Outcome State Fault Refusal := .next (acked (wrChCtrl .ch1 v s))

/-- `RD.CH1.CTRL` (R157). -/
def execRdCh1Ctrl (s : State) : Host.Outcome State Fault Refusal := .next (returned (rdChCtrl .ch1 s) s)

/-- `WR.CH2.READ_ADDR` (R150). -/
def execWrCh2ReadAddr (v : Word) (s : State) : Host.Outcome State Fault Refusal := .next (acked (wrChReadAddr .ch2 v s))

/-- `RD.CH2.READ_ADDR` (R151). -/
def execRdCh2ReadAddr (s : State) : Host.Outcome State Fault Refusal := .next (returned (rdChReadAddr .ch2 s) s)

/-- `WR.CH2.WRITE_ADDR` (R152). -/
def execWrCh2WriteAddr (v : Word) (s : State) : Host.Outcome State Fault Refusal := .next (acked (wrChWriteAddr .ch2 v s))

/-- `RD.CH2.WRITE_ADDR` (R153). -/
def execRdCh2WriteAddr (s : State) : Host.Outcome State Fault Refusal := .next (returned (rdChWriteAddr .ch2 s) s)

/-- `WR.CH2.TRANS_COUNT` (R154). -/
def execWrCh2TransCount (v : Word) (s : State) : Host.Outcome State Fault Refusal := .next (acked (wrChTransCount .ch2 v s))

/-- `RD.CH2.TRANS_COUNT` (R155). -/
def execRdCh2TransCount (s : State) : Host.Outcome State Fault Refusal := .next (returned (rdChTransCount .ch2 s) s)

/-- `WR.CH2.CTRL` (R156). -/
def execWrCh2Ctrl (v : Word) (s : State) : Host.Outcome State Fault Refusal := .next (acked (wrChCtrl .ch2 v s))

/-- `RD.CH2.CTRL` (R157). -/
def execRdCh2Ctrl (s : State) : Host.Outcome State Fault Refusal := .next (returned (rdChCtrl .ch2 s) s)

end Sys2Proof.Machine
end

