-- ==== Sys2Proof/Machine/GenRegs.lean ====
section
/-! DEFINITION. The meanings of the host's transactions on the timing-generator registers (44_timing_generators.md R241 to R253): the
register operation of the rule, and the host's answer. Every one completes in every state (40_channel_registers.md R165;
60_exceptions.md R330). -/

namespace Sys2Proof.Machine

/-- `WR.GEN_ENABLE` (R241). -/
def execWrGenEnable (v : Word) (s : State) : Host.Outcome State Fault Refusal := .next (acked (wrGenEnable v s))

/-- `RD.GEN_ENABLE` (R243). -/
def execRdGenEnable (s : State) : Host.Outcome State Fault Refusal := .next (returned (rdGenEnable s) s)

/-- `WR.GEN_PARAM_H` (R244). -/
def execWrGenParamH (v : Word) (s : State) : Host.Outcome State Fault Refusal := .next (acked (wrGenParam .h v s))

/-- `RD.GEN_PARAM_H` (R245). -/
def execRdGenParamH (s : State) : Host.Outcome State Fault Refusal := .next (returned (rdGenParam .h s) s)

/-- `WR.GEN_PARAM_V` (R244). -/
def execWrGenParamV (v : Word) (s : State) : Host.Outcome State Fault Refusal := .next (acked (wrGenParam .v v s))

/-- `RD.GEN_PARAM_V` (R245). -/
def execRdGenParamV (s : State) : Host.Outcome State Fault Refusal := .next (returned (rdGenParam .v s) s)

/-- `WR.GEN_PARAM_P` (R244). -/
def execWrGenParamP (v : Word) (s : State) : Host.Outcome State Fault Refusal := .next (acked (wrGenParam .p v s))

/-- `RD.GEN_PARAM_P` (R245). -/
def execRdGenParamP (s : State) : Host.Outcome State Fault Refusal := .next (returned (rdGenParam .p s) s)

/-- `WR.PIX_TXF.B` (R246). -/
def execWrPixTxfB (v : Word) (s : State) : Host.Outcome State Fault Refusal := .next (acked (wrPixTxf v s))

/-- `WR.PIX_TXF.H` (R246). -/
def execWrPixTxfH (v : Word) (s : State) : Host.Outcome State Fault Refusal := .next (acked (wrPixTxf v s))

/-- `WR.PIX_TXF.W` (R246). -/
def execWrPixTxfW (v : Word) (s : State) : Host.Outcome State Fault Refusal := .next (acked (wrPixTxf v s))

/-- `RD.PIX_TXF` (R247). -/
def execRdPixTxf (s : State) : Host.Outcome State Fault Refusal := .next (returned (rdPixTxf s) s)

/-- `WR.GEN_STATUS` (R253). -/
def execWrGenStatus (v : Word) (s : State) : Host.Outcome State Fault Refusal := .next (acked (wrGenStatus v s))

/-- `RD.GEN_STATUS` (R251). -/
def execRdGenStatus (s : State) : Host.Outcome State Fault Refusal := .next (returned (rdGenStatus s) s)

/-- `WR.IMEM_USED` (R248). -/
def execWrImemUsed (v : Word) (s : State) : Host.Outcome State Fault Refusal := .next (acked (wrImemUsed v s))

/-- `RD.IMEM_USED` (R249). -/
def execRdImemUsed (s : State) : Host.Outcome State Fault Refusal := .next (returned (rdImemUsed s) s)

end Sys2Proof.Machine
end

