-- ==== Sys2Proof/Machine/GlobalRegs.lean ====
section
/-! DEFINITION. The meanings of the host's transactions on the global registers (40_channel_registers.md R158 to R163): the
register operation of the rule, and the host's answer. Every one completes in every state (40_channel_registers.md R165;
60_exceptions.md R330). -/

namespace Sys2Proof.Machine

/-- `WR.MULTI_TRIG` (R158). -/
def execWrMultiTrig (v : Word) (s : State) : Host.Outcome State Fault Refusal := .next (acked (wrMultiTrig v s))

/-- `RD.MULTI_TRIG` (R159). -/
def execRdMultiTrig (s : State) : Host.Outcome State Fault Refusal := .next (returned (rdMultiTrig s) s)

/-- `WR.STATUS` (R160). -/
def execWrStatus (v : Word) (s : State) : Host.Outcome State Fault Refusal := .next (acked (wrStatus v s))

/-- `RD.STATUS` (R161). -/
def execRdStatus (s : State) : Host.Outcome State Fault Refusal := .next (returned (rdStatus s) s)

/-- `WR.RES_CLAIM` (R162). -/
def execWrResClaim (v : Word) (s : State) : Host.Outcome State Fault Refusal := .next (acked (wrResClaim v s))

/-- `RD.RES_CLAIM` (R163). -/
def execRdResClaim (s : State) : Host.Outcome State Fault Refusal := .next (returned (rdResClaim s) s)

end Sys2Proof.Machine
end

