-- ==== Sys2Proof/Machine/SeqRegs.lean ====
section
/-! DEFINITION. The meanings of the host's transactions on the start-up sequencer registers (45_startup_sequencer.md R281 to R287): the
register operation of the rule, and the host's answer. Every one completes in every state (40_channel_registers.md R165;
60_exceptions.md R330). -/

namespace Sys2Proof.Machine

/-- `WR.SEQ_FB_BASE` (R282). -/
def execWrSeqFbBase (v : Word) (s : State) : Host.Outcome State Fault Refusal := .next (acked (wrSeqCfg .fbBase v s))

/-- `RD.SEQ_FB_BASE` (R281). -/
def execRdSeqFbBase (s : State) : Host.Outcome State Fault Refusal := .next (returned (rdSeqCfg .fbBase s) s)

/-- `WR.SEQ_FB_LEN` (R282). -/
def execWrSeqFbLen (v : Word) (s : State) : Host.Outcome State Fault Refusal := .next (acked (wrSeqCfg .fbLen v s))

/-- `RD.SEQ_FB_LEN` (R281). -/
def execRdSeqFbLen (s : State) : Host.Outcome State Fault Refusal := .next (returned (rdSeqCfg .fbLen s) s)

/-- `WR.SEQ_PTR_ADDR` (R282). -/
def execWrSeqPtrAddr (v : Word) (s : State) : Host.Outcome State Fault Refusal := .next (acked (wrSeqCfg .ptrAddr v s))

/-- `RD.SEQ_PTR_ADDR` (R281). -/
def execRdSeqPtrAddr (s : State) : Host.Outcome State Fault Refusal := .next (returned (rdSeqCfg .ptrAddr s) s)

/-- `WR.SEQ_PARAM_H` (R282). -/
def execWrSeqParamH (v : Word) (s : State) : Host.Outcome State Fault Refusal := .next (acked (wrSeqCfg .paramH v s))

/-- `RD.SEQ_PARAM_H` (R281). -/
def execRdSeqParamH (s : State) : Host.Outcome State Fault Refusal := .next (returned (rdSeqCfg .paramH s) s)

/-- `WR.SEQ_PARAM_V` (R282). -/
def execWrSeqParamV (v : Word) (s : State) : Host.Outcome State Fault Refusal := .next (acked (wrSeqCfg .paramV v s))

/-- `RD.SEQ_PARAM_V` (R281). -/
def execRdSeqParamV (s : State) : Host.Outcome State Fault Refusal := .next (returned (rdSeqCfg .paramV s) s)

/-- `WR.SEQ_PARAM_P` (R282). -/
def execWrSeqParamP (v : Word) (s : State) : Host.Outcome State Fault Refusal := .next (acked (wrSeqCfg .paramP v s))

/-- `RD.SEQ_PARAM_P` (R281). -/
def execRdSeqParamP (s : State) : Host.Outcome State Fault Refusal := .next (returned (rdSeqCfg .paramP s) s)

/-- `WR.SEQ_PINS` (R282). -/
def execWrSeqPins (v : Word) (s : State) : Host.Outcome State Fault Refusal := .next (acked (wrSeqCfg .pins v s))

/-- `RD.SEQ_PINS` (R281). -/
def execRdSeqPins (s : State) : Host.Outcome State Fault Refusal := .next (returned (rdSeqCfg .pins s) s)

/-- `WR.SEQ_CTRL` (R284). -/
def execWrSeqCtrl (v : Word) (s : State) : Host.Outcome State Fault Refusal := .next (acked (wrSeqCtrl v s))

/-- `RD.SEQ_CTRL` (R285). -/
def execRdSeqCtrl (s : State) : Host.Outcome State Fault Refusal := .next (returned (rdSeqCtrl s) s)

/-- `WR.SEQ_STATUS` (R287). -/
def execWrSeqStatus (v : Word) (s : State) : Host.Outcome State Fault Refusal := .next (acked (wrSeqStatus v s))

/-- `RD.SEQ_STATUS` (R286). -/
def execRdSeqStatus (s : State) : Host.Outcome State Fault Refusal := .next (returned (rdSeqStatus s) s)

end Sys2Proof.Machine
end

