-- ==== Sys2Proof/Machine/Dispatch.lean ====
section
/-! DEFINITION. The meaning of each instruction: one arm per constructor of `Instr`, each one direct call. -/

namespace Sys2Proof.Machine

def exec (i : Instr) (s : State) : Host.Outcome State Fault Refusal :=
  match i with
  | .wrCh0ReadAddr v => Sys2Proof.Machine.execWrCh0ReadAddr v s
  | .rdCh0ReadAddr => Sys2Proof.Machine.execRdCh0ReadAddr s
  | .wrCh0WriteAddr v => Sys2Proof.Machine.execWrCh0WriteAddr v s
  | .rdCh0WriteAddr => Sys2Proof.Machine.execRdCh0WriteAddr s
  | .wrCh0TransCount v => Sys2Proof.Machine.execWrCh0TransCount v s
  | .rdCh0TransCount => Sys2Proof.Machine.execRdCh0TransCount s
  | .wrCh0Ctrl v => Sys2Proof.Machine.execWrCh0Ctrl v s
  | .rdCh0Ctrl => Sys2Proof.Machine.execRdCh0Ctrl s
  | .wrCh1ReadAddr v => Sys2Proof.Machine.execWrCh1ReadAddr v s
  | .rdCh1ReadAddr => Sys2Proof.Machine.execRdCh1ReadAddr s
  | .wrCh1WriteAddr v => Sys2Proof.Machine.execWrCh1WriteAddr v s
  | .rdCh1WriteAddr => Sys2Proof.Machine.execRdCh1WriteAddr s
  | .wrCh1TransCount v => Sys2Proof.Machine.execWrCh1TransCount v s
  | .rdCh1TransCount => Sys2Proof.Machine.execRdCh1TransCount s
  | .wrCh1Ctrl v => Sys2Proof.Machine.execWrCh1Ctrl v s
  | .rdCh1Ctrl => Sys2Proof.Machine.execRdCh1Ctrl s
  | .wrCh2ReadAddr v => Sys2Proof.Machine.execWrCh2ReadAddr v s
  | .rdCh2ReadAddr => Sys2Proof.Machine.execRdCh2ReadAddr s
  | .wrCh2WriteAddr v => Sys2Proof.Machine.execWrCh2WriteAddr v s
  | .rdCh2WriteAddr => Sys2Proof.Machine.execRdCh2WriteAddr s
  | .wrCh2TransCount v => Sys2Proof.Machine.execWrCh2TransCount v s
  | .rdCh2TransCount => Sys2Proof.Machine.execRdCh2TransCount s
  | .wrCh2Ctrl v => Sys2Proof.Machine.execWrCh2Ctrl v s
  | .rdCh2Ctrl => Sys2Proof.Machine.execRdCh2Ctrl s
  | .wrMultiTrig v => Sys2Proof.Machine.execWrMultiTrig v s
  | .rdMultiTrig => Sys2Proof.Machine.execRdMultiTrig s
  | .wrStatus v => Sys2Proof.Machine.execWrStatus v s
  | .rdStatus => Sys2Proof.Machine.execRdStatus s
  | .wrResClaim v => Sys2Proof.Machine.execWrResClaim v s
  | .rdResClaim => Sys2Proof.Machine.execRdResClaim s
  | .wrGenEnable v => Sys2Proof.Machine.execWrGenEnable v s
  | .rdGenEnable => Sys2Proof.Machine.execRdGenEnable s
  | .wrGenParamH v => Sys2Proof.Machine.execWrGenParamH v s
  | .rdGenParamH => Sys2Proof.Machine.execRdGenParamH s
  | .wrGenParamV v => Sys2Proof.Machine.execWrGenParamV v s
  | .rdGenParamV => Sys2Proof.Machine.execRdGenParamV s
  | .wrGenParamP v => Sys2Proof.Machine.execWrGenParamP v s
  | .rdGenParamP => Sys2Proof.Machine.execRdGenParamP s
  | .wrPixTxfB v => Sys2Proof.Machine.execWrPixTxfB v s
  | .wrPixTxfH v => Sys2Proof.Machine.execWrPixTxfH v s
  | .wrPixTxfW v => Sys2Proof.Machine.execWrPixTxfW v s
  | .rdPixTxf => Sys2Proof.Machine.execRdPixTxf s
  | .wrGenStatus v => Sys2Proof.Machine.execWrGenStatus v s
  | .rdGenStatus => Sys2Proof.Machine.execRdGenStatus s
  | .wrImemUsed v => Sys2Proof.Machine.execWrImemUsed v s
  | .rdImemUsed => Sys2Proof.Machine.execRdImemUsed s
  | .wrSeqFbBase v => Sys2Proof.Machine.execWrSeqFbBase v s
  | .rdSeqFbBase => Sys2Proof.Machine.execRdSeqFbBase s
  | .wrSeqFbLen v => Sys2Proof.Machine.execWrSeqFbLen v s
  | .rdSeqFbLen => Sys2Proof.Machine.execRdSeqFbLen s
  | .wrSeqPtrAddr v => Sys2Proof.Machine.execWrSeqPtrAddr v s
  | .rdSeqPtrAddr => Sys2Proof.Machine.execRdSeqPtrAddr s
  | .wrSeqParamH v => Sys2Proof.Machine.execWrSeqParamH v s
  | .rdSeqParamH => Sys2Proof.Machine.execRdSeqParamH s
  | .wrSeqParamV v => Sys2Proof.Machine.execWrSeqParamV v s
  | .rdSeqParamV => Sys2Proof.Machine.execRdSeqParamV s
  | .wrSeqParamP v => Sys2Proof.Machine.execWrSeqParamP v s
  | .rdSeqParamP => Sys2Proof.Machine.execRdSeqParamP s
  | .wrSeqPins v => Sys2Proof.Machine.execWrSeqPins v s
  | .rdSeqPins => Sys2Proof.Machine.execRdSeqPins s
  | .wrSeqCtrl v => Sys2Proof.Machine.execWrSeqCtrl v s
  | .rdSeqCtrl => Sys2Proof.Machine.execRdSeqCtrl s
  | .wrSeqStatus v => Sys2Proof.Machine.execWrSeqStatus v s
  | .rdSeqStatus => Sys2Proof.Machine.execRdSeqStatus s

end Sys2Proof.Machine
end

