-- ==== Sys2Proof/Machine/HostAgent.lean ====
section
/-! DEFINITION. The host's turn: its next access, a BUS transaction (30_encoding.md R120, R130), a memory load or store
(20_memory.md R94 to R98) or one round of a polling loop (30_encoding.md R133). -/

namespace Sys2Proof.Machine

/-- A BUS transaction: the decoded instruction runs, an illegal header is a host-access fault (R124, R130). -/
def hostBus (t : Transaction) (s : State) : Host.Outcome State Fault Refusal :=
  match decode t with
  | .ok i => exec i s
  | .error kind => .next (hostFault kind (some t.hdr) s)

/-- A host load or store outside the window (20_memory.md R94, R97): misaligned it is a host-access fault of kind
misaligned_memory, of mapped memory it does `access`, and unmapped it is a host-access fault too (92_eei_decisions.md D6),
whose kind the spec leaves open (assumption 11). DESIGN CHOICE (assumption 14): of an access that is both misaligned and
unmapped the misalignment is recorded; the spec orders the two checks for channels only (60_exceptions.md R319). -/
def hostMemory (a : Addr) (sz : Size) (access : State → State) (s : State) : State :=
  if aligned a sz = false then hostFault .misalignedMemory none s
  else if allMapped s.params a sz then access s
  else hostFault (Config.unmappedKind s.stepNo a) none s

/-- A host load. In the window it is the register access of that offset and size (20_memory.md R94, R95; assumption 12);
elsewhere a misaligned one is recorded as such before the mapping is looked at (assumption 14). -/
def hostLoad (a : Addr) (sz : Size) (s : State) : Host.Outcome State Fault Refusal :=
  if inWindow s.params a then hostBus ⟨mkHeader false sz (windowOffset s.params a), 0#32⟩ s
  else .next (hostMemory a sz (fun u => returned (memRead a sz u) u) s)

/-- A host store, with the same cases as a host load, the order of the two checks among them (assumption 14). -/
def hostStore (a : Addr) (sz : Size) (v : Word) (s : State) : Host.Outcome State Fault Refusal :=
  if inWindow s.params a then hostBus ⟨mkHeader true sz (windowOffset s.params a), v⟩ s
  else .next (hostMemory a sz (fun u => acked (memWrite a sz v u)) s)

/-- One round of a polling loop: a word read; the loop's operation stays next in the host's program until the value
read satisfies `done` (30_encoding.md R133; assumption 15). -/
def hostPoll (op : HostOp) (t : Transaction) (done : Word → Bool) (s : State) : Host.Outcome State Fault Refusal :=
  match hostBus t s with
  | .next s' =>
    match s'.resp with
    | .data v => if done v then .next s' else .next { s' with hostQ := op :: s'.hostQ }
    | _ => .next s'
  | other => other

/-- `wait_idle n` goes on when bit `n` of STATUS is 0 (R133). -/
def idleSeen (n : Chan) (status : Word) : Bool := !status.getLsbD n.index

/-- `wait_seq` goes on when STATE is 7, RUNNING, or 15, FAILED (R133). -/
def startupOver (seqStatus : Word) : Bool :=
  decide (seqStatus.extractLsb' 0 4 = 7#4) || decide (seqStatus.extractLsb' 0 4 = 15#4)

/-- One access of the host. -/
def hostOp (op : HostOp) (s : State) : Host.Outcome State Fault Refusal :=
  match op with
  | .bus t => hostBus t s
  | .load a sz => hostLoad a sz s
  | .store a sz v => hostStore a sz v s
  | .waitIdle n => hostPoll (.waitIdle n) (encode .rdStatus) (idleSeen n) s
  | .waitSeq => hostPoll .waitSeq (encode .rdSeqStatus) startupOver s

/-- The turn of agent HOST: its next access leaves the list and is performed; with no access left the host is silent. -/
def hostStep (s : State) : Host.Outcome State Fault Refusal :=
  match s.hostQ with
  | [] => .next s
  | op :: rest => hostOp op { s with hostQ := rest }

end Sys2Proof.Machine
end

