-- ==== Sys2Proof/Machine/Sequencer.lean ====
section
/-! DEFINITION. The start-up sequencer's phases (45_startup_sequencer.md R288 to R298), one per step, in the order (a) to (f). -/

namespace Sys2Proof.Machine

/-- The sequencer fails with a code (R291 to R293). -/
def seqFail (f : FailCode) (s : State) : State := { s with failCode := f, seqState := .failed }

/-- `IMEM_USED + PROG_LEN_g <= IMEM_SIZE`: generator `g`'s micro-program fits (R291). -/
def programFits (g : Gen) (s : State) : Bool := decide (s.imemUsed.toNat + s.params.progLen g ≤ imemSize)

/-- Generator `g`'s micro-program is placed: its slots are used and LOADED[g] is set (R291). -/
def loadProgram (g : Gen) (s : State) : State :=
  { s.setGen g { s.gen g with loaded := true } with
    imemUsed := s.imemUsed + BitVec.ofNat 32 (s.params.progLen g) }

/-- Load the programs of a list in order; the first that does not fit fails the start (R291). -/
def loadPrograms : List Gen → State → State
  | [], s => { s with seqState := .assign }
  | g :: gs, s => if programFits g s then loadPrograms gs (loadProgram g s) else seqFail .imemExhausted s

/-- `SEQ.LOAD`, phase (a) (R291): H, then V, then P. -/
def seqLoad (s : State) : State := loadPrograms [.h, .v, .p] s

/-- The claim bits of the slots 0, 1, 2 of H, V, P in RES_CLAIM (10_state.md R49, R58). -/
def slotClaims : Word := 0x00000070#32

/-- The claim bits of channels 0 and 1 in RES_CLAIM (10_state.md R49). -/
def scanoutClaims : Word := 0x00000003#32

/-- `SEQ.ASSIGN`, phase (b) (R292). -/
def seqAssign (s : State) : State :=
  if s.resClaim &&& slotClaims ≠ 0#32 then seqFail .smSlotUnavailable s
  else { s with resClaim := s.resClaim ||| slotClaims, seqState := .config }

/-- Descriptor A's CTRL: EN, byte, INCR_READ, CHAIN_TO = 1, DREQ_PIX (42_scanout_chain.md R201). -/
def ctrlA : Word := 0x00001111#32

/-- Descriptor B's CTRL: EN, word, no increments, CHAIN_TO = 0, PERMANENT (42_scanout_chain.md R202). -/
def ctrlB : Word := 0x00000009#32

/-- The address of PIX_TXF, descriptor A's destination (42_scanout_chain.md R200). -/
def pixTxfAddr (p : Params) : Addr := p.sdbBase + 0x210#32

/-- The address of CH0.READ_ADDR, descriptor B's destination (42_scanout_chain.md R202). -/
def ch0ReadAddrAddr (p : Params) : Addr := p.sdbBase + 0x000#32

/-- `configure_A()` (R294), by the register writes in their order. -/
def configureA (s : State) : State :=
  wrChCtrl .ch0 ctrlA
    (wrChTransCount .ch0 s.seqFbLen
      (wrChWriteAddr .ch0 (pixTxfAddr s.params)
        (wrChReadAddr .ch0 s.seqFbBase s)))

/-- `configure_B()` (R295), by the register writes in their order. -/
def configureB (s : State) : State :=
  wrChCtrl .ch1 ctrlB
    (wrChTransCount .ch1 1#32
      (wrChWriteAddr .ch1 (ch0ReadAddrAddr s.params)
        (wrChReadAddr .ch1 s.seqPtrAddr s)))

/-- `SEQ.CONFIG`, phase (c) (R293): claim channels 0 and 1, then configure A and B. -/
def seqConfig (s : State) : State :=
  if s.resClaim &&& scanoutClaims ≠ 0#32 then seqFail .channelUnavailable s
  else
    { configureB (configureA { s with resClaim := s.resClaim ||| scanoutClaims }) with seqState := .param }

/-- `SEQ.PARAM`, phase (d) (R296): the three parameters are pushed in the order H, V, P. -/
def seqParam (s : State) : State :=
  { wrGenParam .p s.seqParamP (wrGenParam .v s.seqParamV (wrGenParam .h s.seqParamH s)) with seqState := .enable }

/-- `SEQ.ENABLE`, phase (e) (R297): the synchronised enable. -/
def seqEnable (s : State) : State := { wrGenEnable 0x00000007#32 s with seqState := .arm }

/-- `SEQ.ARM`, phase (f) (R298): descriptor A is started. -/
def seqArm (s : State) : State := { trigger .ch0 s with seqState := .running }

/-- Agent `SEQ` has an enabled step (R288). -/
def seqEnabled (s : State) : Bool :=
  match s.seqState with
  | .load | .assign | .config | .param | .enable | .arm => true
  | .idle | .running | .failed => false

/-- The turn of agent `SEQ`: the phase STATE names, or nothing in IDLE, RUNNING and FAILED (R288). -/
def seqStep (s : State) : State :=
  match s.seqState with
  | .idle => s
  | .load => seqLoad s
  | .assign => seqAssign s
  | .config => seqConfig s
  | .param => seqParam s
  | .enable => seqEnable s
  | .arm => seqArm s
  | .running => s
  | .failed => s

end Sys2Proof.Machine
end

