-- ==== Sys2Proof/Machine/Schedule.lean ====
section
/-! DEFINITION. Whose turn it is and what a turn does (20_memory.md R104, R105): the total order of the agents' atomic steps. -/

namespace Sys2Proof.Machine

/-- The agent with the turn: the state's schedule names it, or else the free choice of 20_memory.md R105 (assumption 4). -/
def nextAgent (s : State) : Agent :=
  match s.sched with
  | a :: _ => a
  | [] => Config.schedule s.stepNo

/-- The state in which the agent acts: its turn is used up. -/
def takeTurn (s : State) : State := { s with sched := s.sched.tail }

/-- An agent's turn: its enabled step, or nothing where it has none. -/
def agentStep (a : Agent) (s : State) : Host.Outcome State Fault Refusal :=
  match a with
  | .host => hostStep s
  | .chan n => chStep n s
  | .gen g => .next (genStep g s)
  | .seq => .next (seqStep s)

/-- The next step of the run has the next index (assumption 8). -/
def countStep (s : State) : State := { s with stepNo := s.stepNo + 1 }

/-- An outcome whose next state has its step counted. -/
def counted (o : Host.Outcome State Fault Refusal) : Host.Outcome State Fault Refusal :=
  match o with
  | .next s => .next (countStep s)
  | .fault f => .fault f
  | .refused r => .refused r

/-- One step of the run: the agent with the turn acts, then the step is counted. -/
def stepOnce (s : State) : Host.Outcome State Fault Refusal := counted (agentStep (nextAgent s) (takeTurn s))

/-- The state with a transaction as the host's next access and the host next in turn. -/
def placeTransaction (t : Transaction) (s : State) : State :=
  { s with hostQ := .bus t :: s.hostQ, sched := .host :: s.sched }

/-- Whether an agent has an enabled step: a silent host has none (R176, R250, R252, R288). -/
def agentEnabled (a : Agent) (s : State) : Bool :=
  match a with
  | .host => decide (s.hostQ ≠ [])
  | .chan n => chEnabled n s
  | .gen g => latchEnabled g s || (decide (g = .p) && pixPopEnabled s)
  | .seq => seqEnabled s

end Sys2Proof.Machine
end

