-- ==== Sys2Proof/Machine/Step.lean ====
section
/-! DEFINITION. The step function, and how one transaction comes to be the next thing the machine runs. -/

namespace Sys2Proof.Machine

/-- One step of the machine: one turn of one agent (20_memory.md R104, R105). -/
def step (s : State) : Host.Outcome State Fault Refusal := stepOnce s

/-- The state with the transaction of these bits as the host's next access and the host next in turn: the very next
step runs it (assumption 6). -/
def State.withFetchWord (s : State) (nbits w : Nat) : State := placeTransaction (transactionOfNat nbits w) s

end Sys2Proof.Machine
end

