-- ==== Sys2Proof/Machine/HostProcs.lean ====
section
/-! DEFINITION. The host procedures over the registers (30_encoding.md R133; 43_memory_transfer.md R221 to R231;
45_startup_sequencer.md R299), each the list of host accesses its rule gives, and the colour codes. -/

namespace Sys2Proof.Machine

/-- `wr REG, v` (30_encoding.md R132). -/
def hostWr (r : Reg) (v : Word) : HostOp := .bus (encodeAccess r (.write .word v))

/-- `rd REG` (30_encoding.md R132). -/
def hostRd (r : Reg) : HostOp := .bus (encodeAccess r .read)

/-- `trig m` (30_encoding.md R133). -/
def trigProc (m : Word) : List HostOp := [hostWr .multiTrig m]

/-- The CTRL of a fill: EN, byte, INCR_WRITE, CHAIN_TO = 2, PERMANENT (43_memory_transfer.md R221). -/
def ctrlFill : Word := 0x00000221#32

/-- The CTRL of a copy: EN, byte, INCR_READ, INCR_WRITE, CHAIN_TO = 2, PERMANENT (43_memory_transfer.md R222). -/
def ctrlCopy : Word := 0x00000231#32

/-- The writes that set channel 2 up and trigger it, and the wait for its completion (43_memory_transfer.md R221, R222). -/
def transferProc (src dest count ctrl : Word) : List HostOp :=
  [hostWr (.chReadAddr .ch2) src, hostWr (.chWriteAddr .ch2) dest, hostWr (.chTransCount .ch2) count,
   hostWr (.chCtrl .ch2) ctrl] ++ trigProc 0x4#32 ++ [.waitIdle .ch2]

/-- `fill dest, value, count, src` (43_memory_transfer.md R221). -/
def fillProc (dest : Addr) (value : Byte) (count : Word) (src : Addr) : List HostOp :=
  [.waitIdle .ch2, .store src .byte (value.setWidth 32)] ++ transferProc src dest count ctrlFill

/-- `copy dest, src, count` (43_memory_transfer.md R222). -/
def copyProc (dest src : Addr) (count : Word) : List HostOp :=
  [.waitIdle .ch2] ++ transferProc src dest count ctrlCopy

/-- The named colours (43_memory_transfer.md R231). -/
inductive Color where
  | black
  | red
  | green
  | yellow
  | blue
  | magenta
  | cyan
  | white
deriving DecidableEq, Repr, Inhabited

/-- The channels a named colour lights (43_memory_transfer.md R231): red, green, blue. -/
def Color.channels : Color → Bool × Bool × Bool
  | .black => (false, false, false)
  | .red => (true, false, false)
  | .green => (false, true, false)
  | .yellow => (true, true, false)
  | .blue => (false, false, true)
  | .magenta => (true, false, true)
  | .cyan => (false, true, true)
  | .white => (true, true, true)

/-- A packed colour (43_memory_transfer.md R230): for BGR blue is bit 0 and red bit 2, for RGB the reverse, green is
bit 1, and bits 7:3 are 0. -/
def packRgb (o : ColorOrder) (red green blue : Bool) : Byte :=
  match o with
  | .bgr => 0#5 ++ BitVec.ofBool red ++ BitVec.ofBool green ++ BitVec.ofBool blue
  | .rgb => 0#5 ++ BitVec.ofBool blue ++ BitVec.ofBool green ++ BitVec.ofBool red

/-- `pack(name)` (43_memory_transfer.md R231). -/
def pack (o : ColorOrder) (c : Color) : Byte := packRgb o c.channels.1 c.channels.2.1 c.channels.2.2

/-- `fillScreen code, src` for a 3-bit code, which packing zero-extends (43_memory_transfer.md R228; 90_conflicts.md C13). -/
def fillScreenCodeProc (p : Params) (code : BitVec 3) (src : Addr) : List HostOp :=
  fillProc p.fbBase (code.setWidth 8) (BitVec.ofNat 32 p.fbLen) src

/-- `fillScreen color, src` for a colour name (43_memory_transfer.md R228). -/
def fillScreenProc (p : Params) (c : Color) (src : Addr) : List HostOp :=
  fillProc p.fbBase (pack p.colorOrder c) (BitVec.ofNat 32 p.fbLen) src

/-- `drawFrame buf` (43_memory_transfer.md R229). -/
def drawFrameProc (p : Params) (buf : Addr) : List HostOp := copyProc p.fbBase buf (BitVec.ofNat 32 p.fbLen)

/-- SEQ_PINS: vertical sync in bits 7:0, horizontal sync in 15:8, red in 23:16, pixel clock in 31:24
(45_startup_sequencer.md R283). -/
def pinsWord (vs hs red pclk : Byte) : Word := pclk ++ red ++ hs ++ vs

/-- `initDisplay vs, hs, red, pclk` (45_startup_sequencer.md R299). -/
def initDisplayProc (p : Params) (vs hs red pclk : Byte) : List HostOp :=
  [hostWr (.seqCfg .fbBase) p.fbBase, hostWr (.seqCfg .fbLen) (BitVec.ofNat 32 p.fbLen),
   hostWr (.seqCfg .ptrAddr) p.ptrAddr, hostWr (.seqCfg .paramH) p.hActive, hostWr (.seqCfg .paramV) p.vActive,
   hostWr (.seqCfg .paramP) p.pActive, hostWr (.seqCfg .pins) (pinsWord vs hs red pclk),
   hostWr .seqCtrl 1#32, .waitSeq]

/-- Boot duties 1, 2 and 4 (70_reset_and_hazards.md R350, R351, R355), duty 1 by a fill with channel 2: the framebuffer is
zeroed, the pointer cell holds FB_BASE, and IMEM_USED says how much instruction memory other programs use. -/
def bootDutiesProc (p : Params) (src : Addr) (imemUsed : Word) : List HostOp :=
  fillProc p.fbBase 0#8 (BitVec.ofNat 32 p.fbLen) src ++
    [.store p.ptrAddr .word p.fbBase, hostWr .imemUsed imemUsed]

/-- The address of pixel `(x, y)` (10_state.md R63). -/
def pixelAddr (p : Params) (x y : Nat) : Addr := addrAt p.fbBase (y * p.width + x)

end Sys2Proof.Machine
end

