-- ==== Sys2Proof/Safety.lean ====
section
/-! DEFINITION. The terms claims use: the invariant of the block, runs and fairness (20_memory.md R104, R105), the states
of the scanout chain (42_scanout_chain.md R203) and what keeps it running (R207). -/

namespace Sys2Proof.Machine

/-! ### The register map as a list -/

/-- The defined offsets of the register window, written out from the table of 30_encoding.md R127. -/
def definedOffsets : List (BitVec 12) :=
  [0x000#12, 0x004#12, 0x008#12, 0x00C#12, 0x040#12, 0x044#12, 0x048#12, 0x04C#12, 0x080#12, 0x084#12, 0x088#12,
   0x08C#12, 0x100#12, 0x104#12, 0x108#12, 0x200#12, 0x204#12, 0x208#12, 0x20C#12, 0x210#12, 0x214#12, 0x218#12,
   0x300#12, 0x304#12, 0x308#12, 0x30C#12, 0x310#12, 0x314#12, 0x318#12, 0x31C#12, 0x320#12]

/-- The outcome of a rejected transaction: only FAULTS and the host's answer change (30_encoding.md R124; 60_exceptions.md
R313). -/
def rejected (t : Transaction) (k : HostFaultKind) : Prop :=
  decode t = .error k ∧ ∀ s : State, hostBus t s =
    .next { s with faults := s.faults ++ [.hostFault k (some t.hdr)], resp := .hostFault k }

/-- A queue of capacity `d` after a push: a full queue drops the value (00_scope.md R12; 44_timing_generators.md R244). -/
def pushed (d : Nat) (q : List Word) (v : Word) : List Word := if q.length < d then q ++ [v] else q

/-- A write of this instruction twice leaves the state of one write (20_memory.md R101). -/
def idempotentWrite (r : Reg) : Bool :=
  match r with
  | .multiTrig | .genParam _ | .pixTxf | .seqCtrl => false
  | _ => true

/-- `Trigger(n)` would record CFG_ERR (41_transfer_engine.md R171 case 4). -/
def cfgErrDue (s : State) (n : Chan) : Bool :=
  !Ctrl.busy (s.ch n).ctrl && !Ctrl.err (s.ch n).ctrl && Ctrl.en (s.ch n).ctrl && !Ctrl.configLegal (s.ch n).ctrl

/-- `Trigger(n)` would make the channel busy (41_transfer_engine.md R171 case 6). -/
def startDue (s : State) (n : Chan) : Bool :=
  !Ctrl.busy (s.ch n).ctrl && !Ctrl.err (s.ch n).ctrl && Ctrl.en (s.ch n).ctrl && Ctrl.configLegal (s.ch n).ctrl &&
  decide ((s.ch n).tcReload ≠ 0#32)

/-! ### The block's invariant -/

/-- The bits of CTRL that are not reserved (10_state.md R36). -/
def ctrlBits : Word := 0xE100373D#32

/-- What holds in every state a run from reset reaches. -/
structure BlockInv (s : State) : Prop where
  /-- Memory is in canonical form (10_state.md R62). -/
  memWf : s.mem.wf = true
  /-- Only mapped bytes have been written (20_memory.md R92, R94). -/
  memMappedOnly : ∀ c ∈ s.mem, memMapped s.params (BitVec.ofNat 32 c.1) = true
  /-- Reserved bits of CTRL read 0 (10_state.md R36, R45). -/
  ctrlReserved : ∀ n, (s.ch n).ctrl &&& ~~~ctrlBits = 0#32
  /-- A busy channel has elements left, a legal configuration and no error (41_transfer_engine.md R176, R187). -/
  busyLegal : ∀ n, Ctrl.busy (s.ch n).ctrl = true →
    (s.ch n).tcRemain ≠ 0#32 ∧ Ctrl.configLegal (s.ch n).ctrl = true ∧ Ctrl.err (s.ch n).ctrl = false
  /-- Reserved bits of RES_CLAIM read 0 (10_state.md R49). -/
  resClaimReserved : s.resClaim &&& ~~~resClaimMask = 0#32
  /-- Reserved bits of GEN_ENABLE read 0 (10_state.md R50). -/
  genEnableReserved : s.genEnable &&& ~~~genEnableMask = 0#32
  /-- IMEM_USED is 0 to 32 (10_state.md R57). -/
  imemBound : s.imemUsed.toNat ≤ imemSize
  /-- The pixel queue is within its capacity (10_state.md R53). -/
  pixBound : s.pixQ.length ≤ s.params.pixDepth
  /-- The parameter queues are within their capacity (10_state.md R51). -/
  paramBound : ∀ g, (s.gen g).paramQ.length ≤ s.params.paramDepth
  /-- Only a loaded generator has latched a parameter (44_timing_generators.md R250). -/
  latchedLoaded : ∀ g, (s.gen g).latched = true → (s.gen g).loaded = true
  /-- FAIL_CODE names a cause exactly in FAILED (45_startup_sequencer.md R291 to R293). -/
  failCodeIffFailed : s.failCode ≠ .noFailure ↔ s.seqState = .failed
  /-- Before the load phase no program is loaded (10_state.md R56). -/
  unloadedBefore : s.seqState = .idle ∨ s.seqState = .load → ∀ g, (s.gen g).loaded = false
  /-- After the load phase, unless it failed, every program is loaded (45_startup_sequencer.md R289, R291). -/
  loadedAfter : s.seqState ≠ .idle → s.seqState ≠ .load → s.seqState ≠ .failed → ∀ g, (s.gen g).loaded = true

/-! ### Runs -/

/-- An infinite run: each state steps to the next (20_memory.md R104). -/
def IsRun (run : Nat → State) : Prop := ∀ k, step (run k) = .next (run (k + 1))

/-- Weak fairness (20_memory.md R105): an agent whose step stays enabled eventually has the turn. -/
def WeaklyFair (run : Nat → State) : Prop :=
  ∀ a k, (∀ j, k ≤ j → agentEnabled a (run j) = true) → ∃ j, k ≤ j ∧ nextAgent (run j) = a

/-- The state with the given turns coming next. -/
def State.withTurns (turns : List Agent) (s : State) : State := { s with sched := turns }

/-- `k` repetitions of a list of turns. -/
def repeatTurns (k : Nat) (turns : List Agent) : List Agent := (List.replicate k turns).flatten

/-! ### The scanout chain -/

/-- The states of the A/B chain (42_scanout_chain.md R203). -/
inductive ChainState where
  | notStarted
  | streaming
  | reconfiguring
  | dead
  | broken
deriving DecidableEq, Repr

/-- The chain's state, read off the BUSY flags and error bits of channels 0 and 1 (42_scanout_chain.md R203). -/
def chainState (s : State) : ChainState :=
  match Ctrl.busy s.ch0.ctrl, Ctrl.busy s.ch1.ctrl with
  | true, false => .streaming
  | false, true => .reconfiguring
  | true, true => .broken
  | false, false => if Ctrl.err s.ch0.ctrl || Ctrl.err s.ch1.ctrl then .dead else .notStarted

/-- The byte at an address is memory, outside the window. -/
def isMemory (p : Params) (a : Addr) : Bool := !inWindow p a && memMapped p a

/-- Every byte of a pass of `n` bytes from `a` is memory (42_scanout_chain.md R207 b). -/
def passMapped (p : Params) (a : Addr) (n : Nat) : Prop := ∀ k, k < n → isMemory p (addrAt a k) = true

/-- Channels 0 and 1 are descriptors A and B (42_scanout_chain.md R200 to R202), whatever their BUSY flags. -/
structure ScanoutWired (s : State) : Prop where
  ctrlOfA : Ctrl.putBusy false s.ch0.ctrl = ctrlA
  destOfA : s.ch0.writeAddr = pixTxfAddr s.params
  countOfA : s.ch0.tcReload ≠ 0#32
  ctrlOfB : Ctrl.putBusy false s.ch1.ctrl = ctrlB
  sourceOfB : aligned s.ch1.readAddr .word = true
  cellMapped : passMapped s.params s.ch1.readAddr 4
  destOfB : s.ch1.writeAddr = ch0ReadAddrAddr s.params
  countOfB : s.ch1.tcReload = 1#32

/-- The running chain (42_scanout_chain.md R207): the sequencer has finished, A and B are wired, exactly one of them is
busy, what A still has to read is memory, and the address B is about to write starts a pass of memory. -/
structure ChainRunning (s : State) : Prop where
  running : s.seqState = .running
  wired : ScanoutWired s
  oneBusy : Ctrl.busy s.ch0.ctrl ≠ Ctrl.busy s.ch1.ctrl
  passOfA : Ctrl.busy s.ch0.ctrl = true →
    s.ch0.tcRemain ≠ 0#32 ∧ passMapped s.params s.ch0.readAddr s.ch0.tcRemain.toNat
  passOfB : Ctrl.busy s.ch1.ctrl = true →
    s.ch1.tcRemain = 1#32 ∧ (s.ch1.phase = .write → passMapped s.params s.ch1.hold s.ch0.tcReload.toNat)

/-- A register write that could disturb the chain: to a register of channel 0 or 1, or a trigger of one of them
(42_scanout_chain.md R207 d and 70_reset_and_hazards.md R360 for the host's; for channel 2's trigger, assumption 21). -/
def writeTouchesScanout (r : Reg) (v : Word) : Bool :=
  match r with
  | .chReadAddr n => decide (n ≠ .ch2)
  | .chWriteAddr n => decide (n ≠ .ch2)
  | .chTransCount n => decide (n ≠ .ch2)
  | .chCtrl n => decide (n ≠ .ch2)
  | .multiTrig => v.getLsbD 0 || v.getLsbD 1
  | _ => false

/-- A decoded access that could disturb the chain. -/
def accessTouchesScanout (i : Instr) : Bool :=
  match i.access with
  | (r, .write _ v) => writeTouchesScanout r v
  | (_, .read) => false

/-- A transaction that could disturb the chain. -/
def transactionTouchesScanout (t : Transaction) : Bool :=
  match decode t with
  | .ok i => accessTouchesScanout i
  | .error _ => false

/-- A host access that could disturb the chain, directly or as a store into the window. -/
def hostOpTouchesScanout (p : Params) (op : HostOp) : Bool :=
  match op with
  | .bus t => transactionTouchesScanout t
  | .store a sz v => inWindow p a && transactionTouchesScanout ⟨mkHeader true sz (windowOffset p a), v⟩
  | .load _ _ => false
  | .waitIdle _ => false
  | .waitSeq => false

/-- The write phase of channel 2 could disturb the chain: it writes a register of channel 0 or 1 (42_scanout_chain.md R207
d), it writes MULTI_TRIG with bit 0 or 1 set, or it may chain to channel 0 or 1. DEDUCED (assumption 21): R207 (d) forbids
MULTI_TRIG to the host only and names no chain from channel 2; both break the invariant too, so both are ruled out. -/
def channel2TouchesScanout (s : State) : Bool :=
  decide (Ctrl.chain? s.ch2.ctrl ≠ some .ch2) ||
  (inWindow s.params s.ch2.writeAddr &&
    match Reg.ofOffset? (windowOffset s.params s.ch2.writeAddr) with
    | some r => writeTouchesScanout r s.ch2.hold
    | none => false)

/-- The next step leaves the chain alone (42_scanout_chain.md R207 b, d): the host's access does not touch it, neither
does channel 2's write phase (by more than R207 (d) asks: assumption 21), and the pointer cell, when channel 1 reads it,
holds the start of a pass of memory, at any alignment (assumption 17). -/
structure Undisturbed (s : State) : Prop where
  host : nextAgent s = .host → ∀ op rest, s.hostQ = op :: rest → hostOpTouchesScanout s.params op = false
  channel2 : nextAgent s = .chan .ch2 → s.ch2.phase = .write → channel2TouchesScanout s = false
  cell : nextAgent s = .chan .ch1 → s.ch1.phase = .read →
    passMapped s.params (memRead s.ch1.readAddr .word s) s.ch0.tcReload.toNat

end Sys2Proof.Machine
end

