-- ==== Sys2Proof/Certificates/Slice0/Obligations.lean ====
section
/-! DEFINITION. The statements about the model, from the numbered rules of spec/. A next state is written out field by
field where an instruction or a step changes little: every field not written keeps its value, so that the statement is the
frame as well. `takeTurn` and `countStep` are what a step adds around an agent's turn (assumptions 4 and 8), `resp` is the
host's answer (assumption 7). -/

open Sys2Proof Sys2Proof.Machine

/-! ### Encoding -/

/-- 30_encoding.md R121, R123, R127, R130: the decoder reads every well-formed instruction back from its encoding. -/
def Obligations.DecodeOfEncode : Prop := ∀ i : Instr, i.wf = true → decode (encode i) = .ok i

/-- 30_encoding.md R121 to R123, R130: a decoded instruction is well formed and encodes to the same header, and to the part
of the data word its access uses. -/
def Obligations.EncodeOfDecode : Prop := ∀ (t : Transaction) (i : Instr), decode t = .ok i →
  i.wf = true ∧ (encode i).hdr = t.hdr ∧
  (encode i).data =
    (if t.hdr.getLsbD 15 = false then 0#32
     else if t.hdr.extractLsb' 12 2 = 0#2 then t.data &&& 0x000000FF#32
     else if t.hdr.extractLsb' 12 2 = 1#2 then t.data &&& 0x0000FFFF#32
     else t.data)

/-- 30_encoding.md R130: the decoder's checks in their order, over the offsets written out from R127; a rejected transaction
changes nothing but FAULTS and the host's answer, and any other is the access its header names. -/
def Obligations.DecoderInOrder : Prop := ∀ t : Transaction,
  let w := t.hdr.getLsbD 15
  let z := t.hdr.extractLsb' 12 2
  let off := t.hdr.extractLsb' 0 12
  if t.hdr.getLsbD 14 = true ∨ z = 3#2 then rejected t .illegalHeader
  else if w = false ∧ z ≠ 2#2 then rejected t .narrowRead
  else if off ∉ definedOffsets then rejected t .undefinedOffset
  else if w = true ∧ z ≠ 2#2 ∧ off ≠ 0x210#12 then rejected t .narrowWrite
  else ∃ i, decode t = .ok i ∧ i.access.1.offset = off ∧
    (w = false → i.access.2 = .read) ∧
    (w = true → z = 0#2 → i.access.2 = .write .byte (t.data &&& 0x000000FF#32)) ∧
    (w = true → z = 1#2 → i.access.2 = .write .half (t.data &&& 0x0000FFFF#32)) ∧
    (w = true → z = 2#2 → i.access.2 = .write .word t.data) ∧
    ∀ s : State, hostBus t s = exec i s

/-- Words written out from the encoding column of the opcode table: header in bits 15:0, data word in bits 47:16. -/
def Obligations.WordsOfTheTable : Prop :=
  decodeTableWord 48 0x20000100A000 = some (.wrCh0ReadAddr 0x20000100#32) ∧
  decodeTableWord 48 0x00000000204C = some .rdCh1Ctrl ∧
  decodeTableWord 48 0x00000221A08C = some (.wrCh2Ctrl 0x00000221#32) ∧
  decodeTableWord 48 0x00000004A100 = some (.wrMultiTrig 0x00000004#32) ∧
  decodeTableWord 48 0x000000002104 = some .rdStatus ∧
  decodeTableWord 48 0x00000007A200 = some (.wrGenEnable 0x00000007#32) ∧
  decodeTableWord 48 0x123456048210 = some (.wrPixTxfB 0x00000004#32) ∧
  decodeTableWord 48 0x123456789210 = some (.wrPixTxfH 0x00005678#32) ∧
  decodeTableWord 48 0x00012C00A304 = some (.wrSeqFbLen 0x00012C00#32) ∧
  decodeTableWord 48 0x000000002320 = some .rdSeqStatus ∧
  decodeTableWord 48 0x000000006000 = none ∧
  decodeTableWord 48 0x00000000A0C0 = none

/-- A step runs the decoded instruction: when the host has the turn and its next access is a transaction that decodes to
`i`, the step is `exec i` with the turn used up, the access taken from the list and the step counted; a rejected
transaction is recorded; and a transaction placed by `withFetchWord` is run by the very next step. -/
def Obligations.StepRunsTransaction : Prop :=
  (∀ (s : State) (t : Transaction) (rest : List HostOp) (i : Instr),
    nextAgent s = .host → s.hostQ = .bus t :: rest → decode t = .ok i →
    i.wf = true ∧ step s = counted (exec i { s with sched := s.sched.tail, hostQ := rest })) ∧
  (∀ (s : State) (t : Transaction) (rest : List HostOp) (k : HostFaultKind),
    nextAgent s = .host → s.hostQ = .bus t :: rest → decode t = .error k →
    step s = .next { s with
      sched := s.sched.tail, hostQ := rest, stepNo := s.stepNo + 1
      faults := s.faults ++ [.hostFault k (some t.hdr)], resp := .hostFault k }) ∧
  (∀ (s : State) (nbits w : Nat) (i : Instr), decodeTableWord nbits w = some i →
    step (s.withFetchWord nbits w) = counted (exec i s))

/-- 20_memory.md R105; 41 R176; 44 R250, R252; 45 R288: the turn of an agent with no enabled step changes nothing but the
turn and the count of steps (assumption 4). -/
def Obligations.IdleTurnChangesNothing : Prop := ∀ s : State, agentEnabled (nextAgent s) s = false →
  step s = .next { s with sched := s.sched.tail, stepNo := s.stepNo + 1 }

/-! ### Memory and the decoded accesses -/

/-- 20_memory.md R91, R92: the bytes of a stored value, what is left alone, and the value of a read. -/
def Obligations.MemoryBytesAndFrame : Prop := ∀ (s : State) (a : Addr) (sz : Size) (v : Word),
  (∀ i, i < sz.bytes → (memWrite a sz v s).mem.read? (addrAt a i).toNat = some (v.extractLsb' (8 * i) 8)) ∧
  (∀ x : Nat, (∀ i, i < sz.bytes → x ≠ (addrAt a i).toNat) → (memWrite a sz v s).mem.read? x = s.mem.read? x) ∧
  (memWrite a sz v s = { s with mem := (memWrite a sz v s).mem }) ∧
  (memRead a sz s).toNat =
    ((List.range sz.bytes).map fun i => (readByte s (addrAt a i)).toNat * 2 ^ (8 * i)).sum ∧
  (∀ x : Addr, ∀ b, s.mem.read? x.toNat = some b → readByte s x = b)

/-- 20_memory.md R94 to R96: how an access decodes, with the legal register accesses written out. -/
def Obligations.DecodedAccess : Prop := ∀ (s : State) (a : Addr) (sz : Size) (v : Word),
  let off := (a - s.params.sdbBase).setWidth 12
  let window := (a - s.params.sdbBase).toNat < 0x1000
  let mapped := ∀ i, i < sz.bytes → memMapped s.params (addrAt a i) = true
  (window → off ∈ definedOffsets → sz = .word →
    ∃ r : Reg, r.offset = off ∧ busRead a sz s = some (regRead r s)) ∧
  (window → ¬ (off ∈ definedOffsets ∧ sz = .word) → busRead a sz s = none) ∧
  (window → off ∈ definedOffsets → sz = .word ∨ off = 0x210#12 →
    ∃ r : Reg, r.offset = off ∧ busWrite a sz v s = some (regWrite r v s)) ∧
  (window → ¬ (off ∈ definedOffsets ∧ (sz = .word ∨ off = 0x210#12)) → busWrite a sz v s = none) ∧
  (¬ window → mapped → busRead a sz s = some (memRead a sz s) ∧ busWrite a sz v s = some (memWrite a sz v s)) ∧
  (¬ window → ¬ mapped → busRead a sz s = none ∧ busWrite a sz v s = none)

/-- 40_channel_registers.md R164: a channel's access that decodes to a register does what the host's transaction on that
register does, and one the host's decoder rejects is an error for the channel too. -/
def Obligations.ChannelAccessIsHostAccess : Prop := ∀ (s : State) (a : Addr) (sz : Size) (v d : Word),
  inWindow s.params a = true →
  (∀ i, decode ⟨mkHeader true sz (windowOffset s.params a), v⟩ = .ok i →
    ∃ w, busWrite a sz v s = some w ∧ exec i s = .next { w with resp := .ack }) ∧
  (∀ k, decode ⟨mkHeader true sz (windowOffset s.params a), v⟩ = .error k → busWrite a sz v s = none) ∧
  (∀ i, decode ⟨mkHeader false sz (windowOffset s.params a), d⟩ = .ok i →
    ∃ x, busRead a sz s = some x ∧ exec i s = .next { s with resp := .data x }) ∧
  (∀ k, decode ⟨mkHeader false sz (windowOffset s.params a), d⟩ = .error k → busRead a sz s = none)

/-- 20_memory.md R94, R97, R98; 92_eei_decisions.md D6: the host's loads and stores outside the window. A misaligned one is
a host-access fault, whether or not it is mapped (assumption 14), and so is an aligned one that is unmapped, of some kind
(assumption 11); neither entry has a header (assumption 10). -/
def Obligations.HostLoadsAndStores : Prop := ∀ (s : State) (a : Addr) (sz : Size) (v : Word),
  inWindow s.params a = false →
  (a.toNat % sz.bytes ≠ 0 →
    hostOp (.load a sz) s = .next { s with
      faults := s.faults ++ [.hostFault .misalignedMemory none], resp := .hostFault .misalignedMemory } ∧
    hostOp (.store a sz v) s = .next { s with
      faults := s.faults ++ [.hostFault .misalignedMemory none], resp := .hostFault .misalignedMemory }) ∧
  (a.toNat % sz.bytes = 0 → allMapped s.params a sz = true →
    hostOp (.load a sz) s = .next { s with resp := .data (memRead a sz s) } ∧
    hostOp (.store a sz v) s = .next { s with mem := (memWrite a sz v s).mem, resp := .ack }) ∧
  (a.toNat % sz.bytes = 0 → allMapped s.params a sz = false →
    ∃ k : HostFaultKind, let t := { s with faults := s.faults ++ [.hostFault k none], resp := .hostFault k }
      hostOp (.load a sz) s = .next t ∧ hostOp (.store a sz v) s = .next t)

/-! ### Channel registers -/

/-- 40_channel_registers.md R150, R152, R154: a write of READ_ADDR, WRITE_ADDR or TRANS_COUNT sets that register (for
TRANS_COUNT the hidden reload value) and changes nothing else. -/
def Obligations.WriteChannelRegisters : Prop := ∀ (s : State) (v : Word),
  exec (.wrCh0ReadAddr v) s = .next { s with ch0 := { s.ch0 with readAddr := v }, resp := .ack } ∧
  exec (.wrCh1ReadAddr v) s = .next { s with ch1 := { s.ch1 with readAddr := v }, resp := .ack } ∧
  exec (.wrCh2ReadAddr v) s = .next { s with ch2 := { s.ch2 with readAddr := v }, resp := .ack } ∧
  exec (.wrCh0WriteAddr v) s = .next { s with ch0 := { s.ch0 with writeAddr := v }, resp := .ack } ∧
  exec (.wrCh1WriteAddr v) s = .next { s with ch1 := { s.ch1 with writeAddr := v }, resp := .ack } ∧
  exec (.wrCh2WriteAddr v) s = .next { s with ch2 := { s.ch2 with writeAddr := v }, resp := .ack } ∧
  exec (.wrCh0TransCount v) s = .next { s with ch0 := { s.ch0 with tcReload := v }, resp := .ack } ∧
  exec (.wrCh1TransCount v) s = .next { s with ch1 := { s.ch1 with tcReload := v }, resp := .ack } ∧
  exec (.wrCh2TransCount v) s = .next { s with ch2 := { s.ch2 with tcReload := v }, resp := .ack }

/-- 40_channel_registers.md R151, R153, R155, R157: the reads of a channel's registers; TRANS_COUNT reads the remaining
count. -/
def Obligations.ReadChannelRegisters : Prop := ∀ s : State,
  exec .rdCh0ReadAddr s = .next { s with resp := .data s.ch0.readAddr } ∧
  exec .rdCh1ReadAddr s = .next { s with resp := .data s.ch1.readAddr } ∧
  exec .rdCh2ReadAddr s = .next { s with resp := .data s.ch2.readAddr } ∧
  exec .rdCh0WriteAddr s = .next { s with resp := .data s.ch0.writeAddr } ∧
  exec .rdCh1WriteAddr s = .next { s with resp := .data s.ch1.writeAddr } ∧
  exec .rdCh2WriteAddr s = .next { s with resp := .data s.ch2.writeAddr } ∧
  exec .rdCh0TransCount s = .next { s with resp := .data s.ch0.tcRemain } ∧
  exec .rdCh1TransCount s = .next { s with resp := .data s.ch1.tcRemain } ∧
  exec .rdCh2TransCount s = .next { s with resp := .data s.ch2.tcRemain } ∧
  exec .rdCh0Ctrl s = .next { s with resp := .data s.ch0.ctrl } ∧
  exec .rdCh1Ctrl s = .next { s with resp := .data s.ch1.ctrl } ∧
  exec .rdCh2Ctrl s = .next { s with resp := .data s.ch2.ctrl }

/-- 40_channel_registers.md R156, bit by bit: bits 0, 2 to 5, 8 to 10, 12 and 13 of an idle channel's CTRL are written, only
bit 0 of a busy channel's; every other bit and everything else is kept. -/
def Obligations.WriteControl : Prop := ∀ (s : State) (v : Word),
  let writes := fun (old new : Word) => ∀ j, j < 32 → new.getLsbD j =
    (if old.getLsbD 24 then (if j = 0 then v.getLsbD 0 else old.getLsbD j)
     else if j ∈ [0, 2, 3, 4, 5, 8, 9, 10, 12, 13] then v.getLsbD j else old.getLsbD j)
  (∃ c, exec (.wrCh0Ctrl v) s = .next { s with ch0 := { s.ch0 with ctrl := c }, resp := .ack } ∧
    writes s.ch0.ctrl c) ∧
  (∃ c, exec (.wrCh1Ctrl v) s = .next { s with ch1 := { s.ch1 with ctrl := c }, resp := .ack } ∧
    writes s.ch1.ctrl c) ∧
  (∃ c, exec (.wrCh2Ctrl v) s = .next { s with ch2 := { s.ch2 with ctrl := c }, resp := .ack } ∧
    writes s.ch2.ctrl c)

/-! ### Global registers -/

/-- 40_channel_registers.md R158; 60_exceptions.md R321: one MULTI_TRIG write triggers exactly the channels of bits 2:0, each
as a trigger on its own would, and records the CFG_ERRs in ascending channel order; nothing else changes. -/
def Obligations.WriteMultiTrig : Prop := ∀ (s : State) (v : Word), ∃ t : State,
  exec (.wrMultiTrig v) s = .next t ∧
  t = { s with ch0 := t.ch0, ch1 := t.ch1, ch2 := t.ch2, faults := t.faults, resp := .ack } ∧
  (∀ n : Chan, t.ch n = if v.getLsbD n.index then (trigger n s).ch n else s.ch n) ∧
  t.faults = s.faults ++
    (([Chan.ch0, Chan.ch1, Chan.ch2].filter fun n => v.getLsbD n.index && cfgErrDue s n).map .cfgErr)

/-- 40_channel_registers.md R161; 10_state.md R48: STATUS, bit by bit; after reset it reads 0. -/
def Obligations.ReadStatus : Prop :=
  (∀ p : Params, exec .rdStatus (State.powerOn p) = .next { State.powerOn p with resp := .data 0#32 }) ∧
  ∀ s : State, ∃ x : Word,
  exec .rdStatus s = .next { s with resp := .data x } ∧
  x.getLsbD 0 = s.ch0.ctrl.getLsbD 24 ∧ x.getLsbD 1 = s.ch1.ctrl.getLsbD 24 ∧ x.getLsbD 2 = s.ch2.ctrl.getLsbD 24 ∧
  x.getLsbD 8 = (s.ch0.ctrl.getLsbD 29 || s.ch0.ctrl.getLsbD 30 || s.ch0.ctrl.getLsbD 31) ∧
  x.getLsbD 9 = (s.ch1.ctrl.getLsbD 29 || s.ch1.ctrl.getLsbD 30 || s.ch1.ctrl.getLsbD 31) ∧
  x.getLsbD 10 = (s.ch2.ctrl.getLsbD 29 || s.ch2.ctrl.getLsbD 30 || s.ch2.ctrl.getLsbD 31) ∧
  ∀ j, j ∉ [0, 1, 2, 8, 9, 10] → x.getLsbD j = false

/-- 40_channel_registers.md R159, R160; 44_timing_generators.md R245, R247, R253; 45_startup_sequencer.md R285, R287: a write
of a read-only status register changes nothing; a read of a write-only register returns 0 and pops nothing. -/
def Obligations.ReadOnlyAndWriteOnly : Prop := ∀ (s : State) (v : Word),
  exec (.wrStatus v) s = .next { s with resp := .ack } ∧
  exec (.wrGenStatus v) s = .next { s with resp := .ack } ∧
  exec (.wrSeqStatus v) s = .next { s with resp := .ack } ∧
  exec .rdMultiTrig s = .next { s with resp := .data 0#32 } ∧
  exec .rdGenParamH s = .next { s with resp := .data 0#32 } ∧
  exec .rdGenParamV s = .next { s with resp := .data 0#32 } ∧
  exec .rdGenParamP s = .next { s with resp := .data 0#32 } ∧
  exec .rdPixTxf s = .next { s with resp := .data 0#32 } ∧
  exec .rdSeqCtrl s = .next { s with resp := .data 0#32 }

/-- 40_channel_registers.md R162, R163: RES_CLAIM holds the written bits 2:0 and 7:4, whatever the sequencer's state. -/
def Obligations.ResourceClaims : Prop := ∀ (s : State) (v : Word),
  exec (.wrResClaim v) s = .next { s with resClaim := v &&& 0x000000F7#32, resp := .ack } ∧
  exec .rdResClaim s = .next { s with resp := .data s.resClaim }

/-! ### Generator registers -/

/-- 44_timing_generators.md R241: GEN_ENABLE takes bits 2:0; each generator whose bit rises gets this step as its EN_STEP,
and, if its program is not loaded, a NOPROG entry, in the order H, V, P; nothing else changes. -/
def Obligations.WriteGenEnable : Prop := ∀ (s : State) (v : Word),
  let rises := fun g : Gen => v.getLsbD g.index && !s.genEnable.getLsbD g.index
  let noprog := [Gen.h, Gen.v, Gen.p].filter fun g => rises g && !(s.gen g).loaded
  let mark := fun g : Gen => if rises g then { s.gen g with enStep := some s.stepNo } else s.gen g
  exec (.wrGenEnable v) s = .next { s with
    genEnable := v &&& 0x00000007#32
    genH := mark .h
    genV := mark .v
    genP := mark .p
    noprogErr := s.noprogErr || decide (noprog ≠ [])
    faults := s.faults ++ noprog.map .noprog
    resp := .ack }

/-- 44_timing_generators.md R242: generators whose enables rise in one write get equal EN_STEP, and in writes of different
steps different EN_STEP; the sequencer's enable phase makes all three equal when none was enabled before it. -/
def Obligations.SynchronisedStart : Prop :=
  (∀ (s t : State) (v : Word) (g k : Gen), exec (.wrGenEnable v) s = .next t →
    enableRises s.genEnable v g = true → enableRises s.genEnable v k = true →
    (t.gen g).enStep = (t.gen k).enStep ∧ (t.gen g).enStep = some s.stepNo) ∧
  (∀ (s s' t t' : State) (v v' : Word) (g k : Gen), exec (.wrGenEnable v) s = .next t →
    exec (.wrGenEnable v') s' = .next t' → s.stepNo ≠ s'.stepNo →
    enableRises s.genEnable v g = true → enableRises s'.genEnable v' k = true →
    (t.gen g).enStep ≠ (t'.gen k).enStep) ∧
  (∀ s t : State, nextAgent s = .seq → s.seqState = .enable → s.genEnable = 0#32 → step s = .next t →
    t.genEnable = 0x00000007#32 ∧
    t.genH.enStep = some s.stepNo ∧ t.genV.enStep = some s.stepNo ∧ t.genP.enStep = some s.stepNo)

/-- 44_timing_generators.md R244, R246: a write of GEN_PARAM_g pushes onto that generator's queue, a write of PIX_TXF of any
size pushes one entry, bits 7:0 of the value; a full queue drops the value and sets its sticky flag. -/
def Obligations.PushToQueues : Prop := ∀ (s : State) (v : Word),
  let room := fun q : List Word => q.length < s.params.paramDepth
  let pixel : State :=
    if s.pixQ.length < s.params.pixDepth then { s with pixQ := s.pixQ ++ [v.extractLsb' 0 8], resp := .ack }
    else { s with pixTxOver := true, resp := .ack }
  (exec (.wrGenParamH v) s = .next
    (if room s.genH.paramQ then { s with genH := { s.genH with paramQ := s.genH.paramQ ++ [v] }, resp := .ack }
     else { s with paramOver := true, resp := .ack })) ∧
  (exec (.wrGenParamV v) s = .next
    (if room s.genV.paramQ then { s with genV := { s.genV with paramQ := s.genV.paramQ ++ [v] }, resp := .ack }
     else { s with paramOver := true, resp := .ack })) ∧
  (exec (.wrGenParamP v) s = .next
    (if room s.genP.paramQ then { s with genP := { s.genP with paramQ := s.genP.paramQ ++ [v] }, resp := .ack }
     else { s with paramOver := true, resp := .ack })) ∧
  exec (.wrPixTxfB v) s = .next pixel ∧ exec (.wrPixTxfH v) s = .next pixel ∧ exec (.wrPixTxfW v) s = .next pixel

/-- 44_timing_generators.md R243, R251; 10_state.md R54: GEN_ENABLE reads as it is; GEN_STATUS has the queue levels, the full
bit, the sticky flags and the latched and loaded bits in their places and zeros elsewhere. The levels need the queues to
be within legal capacities, which BlockInvHolds keeps. -/
def Obligations.ReadGeneratorStatus : Prop := ∀ s : State,
  exec .rdGenEnable s = .next { s with resp := .data s.genEnable } ∧
  ∃ x : Word, exec .rdGenStatus s = .next { s with resp := .data x } ∧
  (s.pixQ.length ≤ 15 → (x.extractLsb' 0 4).toNat = s.pixQ.length) ∧
  (∀ g, (s.gen g).paramQ.length ≤ 7 → (x.extractLsb' (16 + 4 * g.index) 3).toNat = (s.gen g).paramQ.length) ∧
  x.getLsbD 4 = decide (s.pixQ.length = s.params.pixDepth) ∧
  x.getLsbD 5 = s.pixTxOver ∧ x.getLsbD 6 = s.paramOver ∧ x.getLsbD 7 = s.noprogErr ∧
  (∀ g, x.getLsbD (8 + g.index) = (s.gen g).latched ∧ x.getLsbD (12 + g.index) = (s.gen g).loaded) ∧
  ∀ j, j ∈ [11, 15, 19, 23] ∨ 27 ≤ j → x.getLsbD j = false

/-- 44_timing_generators.md R248, R249: IMEM_USED takes the smaller of the value and 32 while the sequencer is IDLE, ignores
writes otherwise, and reads as it is. -/
def Obligations.InstructionMemoryUsed : Prop := ∀ (s : State) (v : Word),
  exec .rdImemUsed s = .next { s with resp := .data s.imemUsed } ∧
  (s.seqState ≠ .idle → exec (.wrImemUsed v) s = .next { s with resp := .ack }) ∧
  (s.seqState = .idle → exec (.wrImemUsed v) s =
    .next { s with imemUsed := BitVec.ofNat 32 (min v.toNat 32), resp := .ack })

/-! ### Sequencer registers -/

/-- 45_startup_sequencer.md R281, R282: a write of a sequencer configuration register stores all 32 bits in IDLE and is ignored
in every other state; a read returns the register in every state. -/
def Obligations.SequencerConfigRegisters : Prop := ∀ (s : State) (v : Word),
  (s.seqState = .idle →
    exec (.wrSeqFbBase v) s = .next { s with seqFbBase := v, resp := .ack } ∧
    exec (.wrSeqFbLen v) s = .next { s with seqFbLen := v, resp := .ack } ∧
    exec (.wrSeqPtrAddr v) s = .next { s with seqPtrAddr := v, resp := .ack } ∧
    exec (.wrSeqParamH v) s = .next { s with seqParamH := v, resp := .ack } ∧
    exec (.wrSeqParamV v) s = .next { s with seqParamV := v, resp := .ack } ∧
    exec (.wrSeqParamP v) s = .next { s with seqParamP := v, resp := .ack } ∧
    exec (.wrSeqPins v) s = .next { s with seqPins := v, resp := .ack }) ∧
  (s.seqState ≠ .idle →
    exec (.wrSeqFbBase v) s = .next { s with resp := .ack } ∧
    exec (.wrSeqFbLen v) s = .next { s with resp := .ack } ∧
    exec (.wrSeqPtrAddr v) s = .next { s with resp := .ack } ∧
    exec (.wrSeqParamH v) s = .next { s with resp := .ack } ∧
    exec (.wrSeqParamV v) s = .next { s with resp := .ack } ∧
    exec (.wrSeqParamP v) s = .next { s with resp := .ack } ∧
    exec (.wrSeqPins v) s = .next { s with resp := .ack }) ∧
  exec .rdSeqFbBase s = .next { s with resp := .data s.seqFbBase } ∧
  exec .rdSeqFbLen s = .next { s with resp := .data s.seqFbLen } ∧
  exec .rdSeqPtrAddr s = .next { s with resp := .data s.seqPtrAddr } ∧
  exec .rdSeqParamH s = .next { s with resp := .data s.seqParamH } ∧
  exec .rdSeqParamV s = .next { s with resp := .data s.seqParamV } ∧
  exec .rdSeqParamP s = .next { s with resp := .data s.seqParamP } ∧
  exec .rdSeqPins s = .next { s with resp := .data s.seqPins }

/-- 45_startup_sequencer.md R284: bit 0 starts an idle sequencer; anywhere else it sets DOUBLE_START and records DOUBLE_INIT;
with bit 0 clear nothing happens. -/
def Obligations.WriteSequencerControl : Prop := ∀ (s : State) (v : Word),
  (v.getLsbD 0 = false → exec (.wrSeqCtrl v) s = .next { s with resp := .ack }) ∧
  (v.getLsbD 0 = true → s.seqState = .idle →
    exec (.wrSeqCtrl v) s = .next { s with seqState := .load, resp := .ack }) ∧
  (v.getLsbD 0 = true → s.seqState ≠ .idle →
    exec (.wrSeqCtrl v) s = .next { s with
      doubleStart := true, faults := s.faults ++ [.doubleInit], resp := .ack })

/-- 45_startup_sequencer.md R286; 10_state.md R61: SEQ_STATUS, field by field, with the codes of the states and failures. -/
def Obligations.ReadSequencerStatus : Prop := ∀ s : State, ∃ x : Word,
  exec .rdSeqStatus s = .next { s with resp := .data x } ∧
  x.toNat =
    (if s.doubleStart then 65536 else 0) +
    (match s.failCode with
     | .noFailure => 0 | .imemExhausted => 256 | .smSlotUnavailable => 512 | .channelUnavailable => 768) +
    (match s.seqState with
     | .idle => 0 | .load => 1 | .assign => 2 | .config => 3 | .param => 4 | .enable => 5 | .arm => 6
     | .running => 7 | .failed => 15)

/-! ### All instructions -/

/-- 20_memory.md R100: a read of any register, and a host load at any address, changes no state but the host's answer; a
load that is a host-access fault, which returns no value, adds its entry to FAULTS. -/
def Obligations.NoReadHasASideEffect : Prop :=
  (∀ (s : State) (i : Instr), i.access.2 = .read → ∃ x, exec i s = .next { s with resp := .data x }) ∧
  (∀ (s : State) (a : Addr) (sz : Size), ∃ t, hostOp (.load a sz) s = .next t ∧
    ((∃ x, t = { s with resp := .data x }) ∨
     (∃ k hdr, t = { s with resp := .hostFault k, faults := s.faults ++ [.hostFault k hdr] })))

/-- 20_memory.md R101: every write but one of MULTI_TRIG, GEN_PARAM_g, PIX_TXF and SEQ_CTRL leaves, when it is repeated at a
later step, the state it left the first time; and so does a store to memory. -/
def Obligations.IdempotentWrites : Prop :=
  (∀ (s t : State) (i : Instr) (r : Reg) (sz : Size) (v : Word) (k : Nat),
    i.access = (r, .write sz v) → idempotentWrite r = true → exec i s = .next t →
    exec i { t with stepNo := k } = .next { t with stepNo := k }) ∧
  (∀ (s : State) (a : Addr) (sz : Size) (v : Word) (x : Nat),
    (memWrite a sz v (memWrite a sz v s)).mem.read? x = (memWrite a sz v s).mem.read? x)

/-- 40_channel_registers.md R165; 60_exceptions.md R330: every instruction completes in every state, whatever the states of
the channels, the sequencer and the claims, and leaves the parameters, the turn, the host's list and the count of steps. -/
def Obligations.NoInstructionIsRefused : Prop := ∀ (s : State) (i : Instr), ∃ t : State, exec i s = .next t ∧
  t.params = s.params ∧ t.sched = s.sched ∧ t.hostQ = s.hostQ ∧ t.stepNo = s.stepNo ∧ t.mem = s.mem

/-! ### The transfer engine -/

/-- 41_transfer_engine.md R171 to R174: the trigger, case by case. -/
def Obligations.TriggerCases : Prop := ∀ (s : State) (n : Chan),
  let c := s.ch n
  let legal := Ctrl.dataSize c.ctrl ≠ 3#2 ∧ (Ctrl.chainTo c.ctrl).toNat ≤ 2 ∧ (Ctrl.treqSel c.ctrl).toNat ≤ 1
  let failed := c.ctrl.getLsbD 29 = true ∨ c.ctrl.getLsbD 30 = true ∨ c.ctrl.getLsbD 31 = true
  let ready := c.ctrl.getLsbD 24 = false ∧ ¬ failed ∧ c.ctrl.getLsbD 0 = true
  (c.ctrl.getLsbD 24 = true ∨ failed ∨ c.ctrl.getLsbD 0 = false → trigger n s = s) ∧
  (ready → ¬ legal → trigger n s =
    { s.setCh n { c with ctrl := c.ctrl ||| 0x20000000#32 } with faults := s.faults ++ [.cfgErr n] }) ∧
  (ready → legal → c.tcReload = 0#32 → trigger n s = s.setCh n { c with tcRemain := 0#32 }) ∧
  (ready → legal → c.tcReload ≠ 0#32 → trigger n s =
    s.setCh n { c with tcRemain := c.tcReload, phase := .read, ctrl := c.ctrl ||| 0x01000000#32 })

/-- 41_transfer_engine.md R177, R178; 60_exceptions.md R314: the read phase of a busy, enabled, ready channel. -/
def Obligations.ReadPhase : Prop := ∀ (s : State) (n : Chan) (sz : Size),
  let u := takeTurn s
  let c := s.ch n
  nextAgent s = .chan n → Ctrl.busy c.ctrl = true → Ctrl.en c.ctrl = true → c.phase = .read →
  Ctrl.dataSize c.ctrl = sz.code → (Ctrl.chainTo c.ctrl).toNat ≤ 2 →
  (Ctrl.treqSel c.ctrl = 0#2 ∨ (Ctrl.treqSel c.ctrl = 1#2 ∧ s.pixQ.length < s.params.pixDepth)) →
  (c.readAddr.toNat % sz.bytes ≠ 0 ∨ busRead c.readAddr sz s = none →
    step s = .next (countStep
      { u.setCh n { c with ctrl := (c.ctrl ||| 0x40000000#32) &&& ~~~0x01000000#32 } with
        faults := s.faults ++ [.readErr n c.readAddr] })) ∧
  (∀ x, c.readAddr.toNat % sz.bytes = 0 → busRead c.readAddr sz s = some x →
    step s = .next (countStep (u.setCh n { c with hold := x, phase := .write })))

/-- 41_transfer_engine.md R179, R180, R182: the write phase of a busy, enabled channel; the registers advanced are those after
the element's write. -/
def Obligations.WritePhase : Prop := ∀ (s : State) (n : Chan) (sz : Size),
  let u := takeTurn s
  let c := s.ch n
  nextAgent s = .chan n → Ctrl.busy c.ctrl = true → Ctrl.en c.ctrl = true → c.phase = .write →
  Ctrl.dataSize c.ctrl = sz.code → (Ctrl.chainTo c.ctrl).toNat ≤ 2 →
  (c.writeAddr.toNat % sz.bytes ≠ 0 ∨ busWrite c.writeAddr sz c.hold u = none →
    step s = .next (countStep
      { u.setCh n { c with ctrl := (c.ctrl ||| 0x80000000#32) &&& ~~~0x01000000#32 } with
        faults := s.faults ++ [.writeErr n c.writeAddr] })) ∧
  (∀ w, c.writeAddr.toNat % sz.bytes = 0 → busWrite c.writeAddr sz c.hold u = some w →
    let d := w.ch n
    let e : Channel := { d with
      readAddr := if d.ctrl.getLsbD 4 then d.readAddr + BitVec.ofNat 32 sz.bytes else d.readAddr
      writeAddr := if d.ctrl.getLsbD 5 then d.writeAddr + BitVec.ofNat 32 sz.bytes else d.writeAddr
      tcRemain := d.tcRemain - 1#32
      phase := .read }
    let done := w.setCh n { e with ctrl := e.ctrl &&& ~~~0x01000000#32 }
    (d.tcRemain ≠ 1#32 → step s = .next (countStep (w.setCh n e))) ∧
    (d.tcRemain = 1#32 → (Ctrl.chainTo d.ctrl).toNat = n.index → step s = .next (countStep done)) ∧
    (d.tcRemain = 1#32 → ∀ m : Chan, m ≠ n → (Ctrl.chainTo d.ctrl).toNat = m.index →
      step s = .next (countStep (trigger m done))))

/-- 41_transfer_engine.md R180; 20_memory.md R92: where an element's write goes to memory, exactly its bytes are stored, and
nothing changes but memory, the channel, the turn and the count of steps, and at the last element the chained channel
and FAULTS. -/
def Obligations.ElementWriteFrame : Prop := ∀ (s : State) (n : Chan) (sz : Size),
  let c := s.ch n
  nextAgent s = .chan n → Ctrl.busy c.ctrl = true → Ctrl.en c.ctrl = true → c.phase = .write →
  Ctrl.dataSize c.ctrl = sz.code → (Ctrl.chainTo c.ctrl).toNat ≤ 2 →
  aligned c.writeAddr sz = true → inWindow s.params c.writeAddr = false → allMapped s.params c.writeAddr sz = true →
  ∃ t, step s = .next t ∧
    (∀ i, i < sz.bytes → t.mem.read? (addrAt c.writeAddr i).toNat = some (c.hold.extractLsb' (8 * i) 8)) ∧
    (∀ x : Nat, (∀ i, i < sz.bytes → x ≠ (addrAt c.writeAddr i).toNat) → t.mem.read? x = s.mem.read? x) ∧
    (∀ m : Chan, m ≠ n → (c.tcRemain ≠ 1#32 ∨ (Ctrl.chainTo c.ctrl).toNat ≠ m.index) → t.ch m = s.ch m) ∧
    (c.tcRemain ≠ 1#32 → t.faults = s.faults) ∧
    t = { s with
      ch0 := t.ch0, ch1 := t.ch1, ch2 := t.ch2, mem := t.mem, faults := t.faults
      sched := s.sched.tail, stepNo := s.stepNo + 1 }

/-- 41_transfer_engine.md R175, R185; 42_scanout_chain.md R209: a busy channel that is paused, or paced by a full pixel queue
at its read phase, takes no step, changes nothing and consumes nothing; a full queue never holds up a write phase or an
unpaced channel. -/
def Obligations.StallAndPause : Prop := ∀ (s : State) (n : Chan),
  let c := (s.ch n).ctrl
  (Ctrl.en c = false → chEnabled n s = false) ∧
  ((s.ch n).phase = .read → Ctrl.treqSel c = 1#2 → s.params.pixDepth ≤ s.pixQ.length → chEnabled n s = false) ∧
  (Ctrl.busy c = true → Ctrl.en c = true →
    (s.ch n).phase = .write ∨ Ctrl.treqSel c = 0#2 ∨ (Ctrl.treqSel c = 1#2 ∧ s.pixQ.length < s.params.pixDepth) →
    chEnabled n s = true) ∧
  (nextAgent s = .chan n → chEnabled n s = false →
    step s = .next { s with sched := s.sched.tail, stepNo := s.stepNo + 1 })

/-- 41_transfer_engine.md R184, R173: a step makes an idle channel busy only as a host access, a write phase of a channel, or
the sequencer's ARM phase (channel 0), and the channel then starts with its reload count at its read phase; and of the
host's instructions only a MULTI_TRIG write with the channel's bit set does. -/
def Obligations.HowAChannelStarts : Prop :=
  (∀ (s t : State) (n : Chan), step s = .next t →
    Ctrl.busy (s.ch n).ctrl = false → Ctrl.busy (t.ch n).ctrl = true →
    (nextAgent s = .host ∨ (nextAgent s = .seq ∧ s.seqState = .arm ∧ n = .ch0) ∨
      ∃ m, nextAgent s = .chan m ∧ (s.ch m).phase = .write) ∧
    (t.ch n).tcRemain = (t.ch n).tcReload ∧ (t.ch n).tcRemain ≠ 0#32 ∧ (t.ch n).phase = .read) ∧
  (∀ (s t : State) (i : Instr) (n : Chan), exec i s = .next t →
    Ctrl.busy (s.ch n).ctrl = false → Ctrl.busy (t.ch n).ctrl = true →
    ∃ v, i = .wrMultiTrig v ∧ v.getLsbD n.index = true)

/-! ### Generators -/

/-- 44_timing_generators.md R250, R252: the latch takes the oldest parameter; the pixel generator takes the oldest byte of the
pixel queue; where neither is enabled a generator's turn changes nothing. -/
def Obligations.GeneratorSteps : Prop :=
  (∀ (s : State) (g : Gen) (v : Word) (rest : List Word),
    nextAgent s = .gen g → s.genEnable.getLsbD g.index = true → (s.gen g).loaded = true → (s.gen g).latched = false →
    (s.gen g).paramQ = v :: rest →
    step s = .next (countStep
      ((takeTurn s).setGen g { s.gen g with cntLoad := v, latched := true, paramQ := rest }))) ∧
  (∀ (s : State) (b : Byte) (rest : List Byte),
    nextAgent s = .gen .p → s.genEnable.getLsbD 2 = true → s.genP.loaded = true → s.genP.latched = true →
    s.pixQ = b :: rest →
    step s = .next (countStep { takeTurn s with pixQ := rest, pixOut := s.pixOut ++ [b] })) ∧
  (∀ (s : State) (g : Gen), nextAgent s = .gen g →
    ¬ (s.genEnable.getLsbD g.index = true ∧ (s.gen g).loaded = true ∧ (s.gen g).latched = false ∧
      (s.gen g).paramQ ≠ []) →
    ¬ (g = .p ∧ s.genEnable.getLsbD 2 = true ∧ s.genP.loaded = true ∧ s.genP.latched = true ∧ s.pixQ ≠ []) →
    step s = .next (countStep (takeTurn s)))

/-- 44_timing_generators.md R261: no step unlatches a generator or changes its latched value, what stands in a latched
generator's queue stays there, and no step unloads a program. -/
def Obligations.LatchedOnce : Prop := ∀ (s t : State) (g : Gen), step s = .next t →
  ((s.gen g).latched = true → (t.gen g).latched = true ∧ (t.gen g).cntLoad = (s.gen g).cntLoad ∧
    ∃ new, (t.gen g).paramQ = (s.gen g).paramQ ++ new) ∧
  ((s.gen g).loaded = true → (t.gen g).loaded = true)

/-- 10_state.md R65; 42_scanout_chain.md R210: the pixel queue is first-in first-out: what the display has received, followed
by what is queued, only grows at its end, by at most one byte a step. -/
def Obligations.PixelsInOrder : Prop := ∀ s t : State, step s = .next t →
  (∃ new : List Byte, new.length ≤ 1 ∧ t.pixOut ++ t.pixQ = s.pixOut ++ s.pixQ ++ new) ∧
  (∃ taken : List Byte, t.pixOut = s.pixOut ++ taken)

/-! ### The start-up sequencer -/

/-- 45_startup_sequencer.md R291: the load phase, by how far the programs fit. -/
def Obligations.SequencerLoad : Prop := ∀ s : State, nextAgent s = .seq → s.seqState = .load →
  let u := s.imemUsed.toNat
  let h := s.params.progLenH
  let v := s.params.progLenV
  let p := s.params.progLenP
  let loadedH := { s.genH with loaded := true }
  let loadedV := { s.genV with loaded := true }
  let loadedP := { s.genP with loaded := true }
  (32 < u + h → step s = .next (countStep { takeTurn s with failCode := .imemExhausted, seqState := .failed })) ∧
  (u + h ≤ 32 → 32 < u + h + v → step s = .next (countStep { takeTurn s with
    genH := loadedH, imemUsed := BitVec.ofNat 32 (u + h), failCode := .imemExhausted, seqState := .failed })) ∧
  (u + h + v ≤ 32 → 32 < u + h + v + p → step s = .next (countStep { takeTurn s with
    genH := loadedH, genV := loadedV, imemUsed := BitVec.ofNat 32 (u + h + v)
    failCode := .imemExhausted, seqState := .failed })) ∧
  (u + h + v + p ≤ 32 → step s = .next (countStep { takeTurn s with
    genH := loadedH, genV := loadedV, genP := loadedP, imemUsed := BitVec.ofNat 32 (u + h + v + p)
    seqState := .assign }))

/-- 45_startup_sequencer.md R292 to R295: the assign phase claims the slots; the config phase claims channels 0 and 1 and writes
descriptors A and B, their CTRL writes by R156, so that a busy channel's changes only EN. -/
def Obligations.SequencerAssignConfig : Prop :=
  (∀ s : State, nextAgent s = .seq → s.seqState = .assign →
    let taken := s.resClaim.getLsbD 4 || s.resClaim.getLsbD 5 || s.resClaim.getLsbD 6
    (taken = true → step s = .next (countStep { takeTurn s with
      failCode := .smSlotUnavailable, seqState := .failed })) ∧
    (taken = false → step s = .next (countStep { takeTurn s with
      resClaim := s.resClaim ||| 0x00000070#32, seqState := .config }))) ∧
  (∀ s : State, nextAgent s = .seq → s.seqState = .config →
    let taken := s.resClaim.getLsbD 0 || s.resClaim.getLsbD 1
    let control := fun (old v : Word) =>
      if old.getLsbD 24 then old ||| 0x00000001#32 else (old &&& ~~~0x0000373D#32) ||| v
    (taken = true → step s = .next (countStep { takeTurn s with
      failCode := .channelUnavailable, seqState := .failed })) ∧
    (taken = false → step s = .next (countStep { takeTurn s with
      resClaim := s.resClaim ||| 0x00000003#32
      ch0 := { s.ch0 with
        readAddr := s.seqFbBase, writeAddr := s.params.sdbBase + 0x210#32, tcReload := s.seqFbLen
        ctrl := control s.ch0.ctrl 0x00001111#32 }
      ch1 := { s.ch1 with
        readAddr := s.seqPtrAddr, writeAddr := s.params.sdbBase, tcReload := 1#32
        ctrl := control s.ch1.ctrl 0x00000009#32 }
      seqState := .param })))

/-- 45_startup_sequencer.md R296 to R298: the param phase pushes the three parameters, a full queue dropping its value and
setting PARAM_OVER; the enable phase sets all three enables, without a NOPROG when the programs are loaded, which
BlockInv says they are; the arm phase triggers channel 0. -/
def Obligations.SequencerParamEnableArm : Prop :=
  (∀ s : State, nextAgent s = .seq → s.seqState = .param →
    let d := s.params.paramDepth
    step s = .next (countStep { takeTurn s with
      genH := { s.genH with paramQ := pushed d s.genH.paramQ s.seqParamH }
      genV := { s.genV with paramQ := pushed d s.genV.paramQ s.seqParamV }
      genP := { s.genP with paramQ := pushed d s.genP.paramQ s.seqParamP }
      paramOver := s.paramOver || decide (d ≤ s.genH.paramQ.length) || decide (d ≤ s.genV.paramQ.length) ||
        decide (d ≤ s.genP.paramQ.length)
      seqState := .enable })) ∧
  (∀ s : State, BlockInv s → nextAgent s = .seq → s.seqState = .enable →
    let mark := fun g : Gen =>
      if s.genEnable.getLsbD g.index then s.gen g else { s.gen g with enStep := some s.stepNo }
    step s = .next (countStep { takeTurn s with
      genEnable := 0x00000007#32, genH := mark .h, genV := mark .v, genP := mark .p, seqState := .arm })) ∧
  (∀ s : State, nextAgent s = .seq → s.seqState = .arm →
    step s = .next (countStep { trigger .ch0 (takeTurn s) with seqState := .running }))

/-- 45_startup_sequencer.md R290: RUNNING and FAILED are terminal, FAILED keeps its code, and no step returns the sequencer to
IDLE. -/
def Obligations.SequencerTerminal : Prop := ∀ s t : State, step s = .next t →
  (s.seqState = .running → t.seqState = .running) ∧
  (s.seqState = .failed → t.seqState = .failed ∧ t.failCode = s.failCode) ∧
  (t.seqState = .idle → s.seqState = .idle)

/-- 60_exceptions.md R338; 45_startup_sequencer.md R299: a started sequencer is RUNNING or FAILED after six steps of its own,
however the other agents' turns fall between them; so it gets there in every weakly fair run. -/
def Obligations.StartupEnds : Prop :=
  (∀ (s t : State) (turns : List Agent), s.seqState ≠ .idle → 6 ≤ turns.count .seq →
    core.run turns.length (s.withTurns turns) = .next t → t.seqState = .running ∨ t.seqState = .failed) ∧
  (∀ run : Nat → State, IsRun run → WeaklyFair run → (run 0).seqState ≠ .idle →
    ∃ k, (run k).seqState = .running ∨ (run k).seqState = .failed)

/-- 45_startup_sequencer.md R289, R301: from LOAD, six turns of the sequencer end in the state and the failure code that
IMEM_USED, the program lengths and RES_CLAIM decide; a failure leaves GEN_ENABLE and channels 0 and 1 as they were. -/
def Obligations.StartupOutcome : Prop := ∀ s t : State, BlockInv s → s.seqState = .load →
  core.run 6 (s.withTurns (List.replicate 6 .seq)) = .next t →
  let need := s.imemUsed.toNat + s.params.progLenH + s.params.progLenV + s.params.progLenP
  let cause : FailCode :=
    if 32 < need then .imemExhausted
    else if s.resClaim &&& 0x00000070#32 ≠ 0#32 then .smSlotUnavailable
    else if s.resClaim &&& 0x00000003#32 ≠ 0#32 then .channelUnavailable
    else .noFailure
  t.failCode = cause ∧ t.seqState = (if cause = .noFailure then .running else .failed) ∧
  (cause ≠ .noFailure → t.genEnable = s.genEnable ∧ t.ch0 = s.ch0 ∧ t.ch1 = s.ch1) ∧
  (cause = .noFailure → t.genEnable = 0x00000007#32 ∧ t.resClaim = s.resClaim ||| 0x00000073#32 ∧
    t.imemUsed = BitVec.ofNat 32 need)

/-! ### The whole machine -/

/-- 10_state.md R68; 70_reset_and_hazards.md R340: every piece of state after power-on reset, whatever the parameters. -/
def Obligations.ResetValues : Prop := ∀ p : Params, let s := State.powerOn p
  s.params = p ∧
  (∀ n, (s.ch n).readAddr = 0#32 ∧ (s.ch n).writeAddr = 0#32 ∧ (s.ch n).tcReload = 0#32 ∧ (s.ch n).tcRemain = 0#32 ∧
    (s.ch n).phase = .read ∧ (s.ch n).hold = 0#32) ∧
  s.ch0.ctrl = 0x00000000#32 ∧ s.ch1.ctrl = 0x00000100#32 ∧ s.ch2.ctrl = 0x00000200#32 ∧
  statusWord s = 0#32 ∧ s.resClaim = 0#32 ∧ s.genEnable = 0#32 ∧ s.pixQ = [] ∧
  (∀ g, (s.gen g).paramQ = [] ∧ (s.gen g).latched = false ∧ (s.gen g).cntLoad = 0#32 ∧ (s.gen g).loaded = false ∧
    (s.gen g).enStep = none) ∧
  s.pixTxOver = false ∧ s.paramOver = false ∧ s.noprogErr = false ∧ (1 ≤ p.pixDepth → genStatusWord s = 0#32) ∧
  s.imemUsed = 0#32 ∧
  s.seqFbBase = 0#32 ∧ s.seqFbLen = 0#32 ∧ s.seqPtrAddr = 0#32 ∧ s.seqParamH = 0#32 ∧ s.seqParamV = 0#32 ∧
  s.seqParamP = 0#32 ∧ s.seqPins = 0#32 ∧ seqStatusWord s = 0#32 ∧
  (∀ x, s.mem.read? x = none) ∧ s.pixOut = [] ∧ s.faults = []

/-- 70_reset_and_hazards.md R341: after reset no agent but the host has an enabled step, and while the host is silent nothing
changes but the count of steps, whoever has the turns. -/
def Obligations.QuiescentAfterReset : Prop := ∀ p : Params,
  (∀ a : Agent, a ≠ .host → agentEnabled a (State.powerOn p) = false) ∧
  (∀ k : Nat, core.run k (State.powerOn p) = .next { State.powerOn p with stepNo := k }) ∧
  (∀ turns : List Agent, core.run turns.length ((State.powerOn p).withTurns turns) =
    .next { State.powerOn p with stepNo := turns.length })

/-- The invariant of the block (Safety.lean, each clause citing its rule) is kept by every step. -/
def Obligations.BlockInvKept : Prop := ∀ s t : State, BlockInv s → step s = .next t → BlockInv t

/-- The invariant of the block holds after power-on reset, whatever the parameters, and so in the model's reset state, whose
parameters are the model's choice (assumption 1). -/
def Obligations.BlockInvAtReset : Prop := (∀ p : Params, BlockInv (State.powerOn p)) ∧ BlockInv State.reset

/-- 60_exceptions.md R310, R337: where the invariant of the block holds every step answers a next state. No access of the
host and no error of a channel ends a run, the fault of assumption 13 cannot occur, and no step is refused. -/
def Obligations.StepsGoOn : Prop := ∀ s : State, BlockInv s → ∃ t, step s = .next t

/-- 60_exceptions.md R312, R315; 10_state.md R44, R55, R61, R67: no step removes an entry of FAULTS or clears an error bit or a
sticky flag, a FAILED sequencer stays so, a failed channel that is not busy stays idle, a trigger of a failed channel does
nothing; and the parameters never change while each step counts one. -/
def Obligations.ErrorsAreForever : Prop :=
  (∀ s t : State, step s = .next t →
    (∃ new, t.faults = s.faults ++ new) ∧ t.params = s.params ∧ t.stepNo = s.stepNo + 1) ∧
  (∀ s t : State, step s = .next t →
    (∀ n, (Ctrl.cfgErr (s.ch n).ctrl = true → Ctrl.cfgErr (t.ch n).ctrl = true) ∧
      (Ctrl.readErr (s.ch n).ctrl = true → Ctrl.readErr (t.ch n).ctrl = true) ∧
      (Ctrl.writeErr (s.ch n).ctrl = true → Ctrl.writeErr (t.ch n).ctrl = true) ∧
      (Ctrl.err (s.ch n).ctrl = true → Ctrl.busy (s.ch n).ctrl = false → Ctrl.busy (t.ch n).ctrl = false)) ∧
    (s.pixTxOver = true → t.pixTxOver = true) ∧ (s.paramOver = true → t.paramOver = true) ∧
    (s.noprogErr = true → t.noprogErr = true) ∧ (s.doubleStart = true → t.doubleStart = true) ∧
    (s.seqState = .failed → t.seqState = .failed)) ∧
  (∀ (s : State) (n : Chan), Ctrl.err (s.ch n).ctrl = true → trigger n s = s)

/-! ### Fill and copy -/

/-- 43_memory_transfer.md R221, R223: a whole fill, from the host's first wait to the end of its last, with the transfer's
steps uninterrupted: every destination byte holds the value, the source byte too, no other byte changes, channel 2 ends
idle at the addresses and count of R223, and nothing else of the block changes. -/
def Obligations.FillResult : Prop := ∀ (s : State) (dest src : Addr) (value : Byte) (count : Word) (rest : List HostOp),
  Ctrl.busy s.ch2.ctrl = false → Ctrl.err s.ch2.ctrl = false → count ≠ 0#32 →
  isMemory s.params src = true → passMapped s.params dest count.toNat →
  s.hostQ = fillProc dest value count src ++ rest →
  s.sched = List.replicate 7 .host ++ List.replicate (2 * count.toNat) (.chan .ch2) ++ [.host] →
  ∃ t, core.run (2 * count.toNat + 8) s = .next t ∧
    (∀ i, i < count.toNat → t.mem.read? (addrAt dest i).toNat = some value) ∧
    t.mem.read? src.toNat = some value ∧
    (∀ x : Nat, x ≠ src.toNat → (∀ i, i < count.toNat → x ≠ (addrAt dest i).toNat) →
      t.mem.read? x = s.mem.read? x) ∧
    t = { s with
      ch2 := { s.ch2 with
        readAddr := src, writeAddr := dest + count, tcReload := count, tcRemain := 0#32, phase := .read
        ctrl := (s.ch2.ctrl &&& ~~~0x0000373D#32) ||| 0x00000221#32, hold := value.setWidth 32 }
      mem := t.mem, stepNo := s.stepNo + (2 * count.toNat + 8), sched := [], hostQ := rest, resp := t.resp }

/-- 43_memory_transfer.md R222, R224: a whole copy, with the transfer's steps uninterrupted. With `d` the distance from the
source to the destination, destination byte `i` gets the original source byte `i mod d`, which is source byte `i` itself
unless the destination starts inside the source above its start. No other byte changes. -/
def Obligations.CopyResult : Prop := ∀ (s : State) (dest src : Addr) (count : Word) (rest : List HostOp),
  Ctrl.busy s.ch2.ctrl = false → Ctrl.err s.ch2.ctrl = false → count ≠ 0#32 →
  passMapped s.params src count.toNat → passMapped s.params dest count.toNat →
  (∀ i, i < count.toNat → ∃ b, s.mem.read? (addrAt src i).toNat = some b) →
  s.hostQ = copyProc dest src count ++ rest →
  s.sched = List.replicate 6 .host ++ List.replicate (2 * count.toNat) (.chan .ch2) ++ [.host] →
  ∃ t, core.run (2 * count.toNat + 7) s = .next t ∧
    (∀ i, i < count.toNat → t.mem.read? (addrAt dest i).toNat =
      s.mem.read? (addrAt src (i % (dest - src).toNat)).toNat) ∧
    (∀ x : Nat, (∀ i, i < count.toNat → x ≠ (addrAt dest i).toNat) → t.mem.read? x = s.mem.read? x) ∧
    t = { s with
      ch2 := { s.ch2 with
        readAddr := src + count, writeAddr := dest + count, tcReload := count, tcRemain := 0#32, phase := .read
        ctrl := (s.ch2.ctrl &&& ~~~0x0000373D#32) ||| 0x00000231#32, hold := t.ch2.hold }
      mem := t.mem, stepNo := s.stepNo + (2 * count.toNat + 7), sched := [], hostQ := rest, resp := t.resp }

/-- 43_memory_transfer.md R225: a copy of count 0 returns at once; channel 2 takes no step and no byte is written. -/
def Obligations.CopyOfNothing : Prop := ∀ (s : State) (dest src : Addr) (rest : List HostOp),
  Ctrl.busy s.ch2.ctrl = false → Ctrl.err s.ch2.ctrl = false →
  s.hostQ = copyProc dest src 0#32 ++ rest → s.sched = List.replicate 7 .host →
  ∃ t, core.run 7 s = .next t ∧
    t = { s with
      ch2 := { s.ch2 with
        readAddr := src, writeAddr := dest, tcReload := 0#32, tcRemain := 0#32
        ctrl := (s.ch2.ctrl &&& ~~~0x0000373D#32) ||| 0x00000231#32 }
      stepNo := s.stepNo + 7, sched := [], hostQ := rest, resp := t.resp }

/-- 43_memory_transfer.md R230, R231: the colour codes, written out from the table. -/
def Obligations.ColourCodes : Prop :=
  [Color.black, .red, .green, .yellow, .blue, .magenta, .cyan, .white].map (pack .bgr) =
    [0x00#8, 0x04#8, 0x02#8, 0x06#8, 0x01#8, 0x05#8, 0x03#8, 0x07#8] ∧
  [Color.black, .red, .green, .yellow, .blue, .magenta, .cyan, .white].map (pack .rgb) =
    [0x00#8, 0x01#8, 0x02#8, 0x03#8, 0x04#8, 0x05#8, 0x06#8, 0x07#8] ∧
  ∀ r g b : Bool,
    packRgb .bgr r g b = (if b then 1#8 else 0#8) ||| (if g then 2#8 else 0#8) ||| (if r then 4#8 else 0#8) ∧
    packRgb .rgb r g b = (if r then 1#8 else 0#8) ||| (if g then 2#8 else 0#8) ||| (if b then 4#8 else 0#8)

/-! ### The scanout chain -/

/-- 42_scanout_chain.md R204, R205: a pass of A over `bytes`, each element pushed and taken by the pixel generator: the bytes
are displayed in order, A ends idle at the end of the pass and B is busy, in the step of the last element's write. -/
def Obligations.ScanoutPass : Prop := ∀ (s : State) (p : Addr) (bytes : List Byte),
  ScanoutWired s → Ctrl.busy s.ch0.ctrl = true → Ctrl.busy s.ch1.ctrl = false → s.ch0.phase = .read →
  s.ch0.readAddr = p → s.ch0.tcRemain = BitVec.ofNat 32 bytes.length → bytes ≠ [] → bytes.length < 2 ^ 32 →
  passMapped s.params p bytes.length →
  (∀ k (h : k < bytes.length), s.mem.read? (addrAt p k).toNat = some bytes[k]) →
  s.pixQ = [] → 1 ≤ s.params.pixDepth → s.genEnable.getLsbD 2 = true → s.genP.loaded = true → s.genP.latched = true →
  s.sched = repeatTurns bytes.length [.chan .ch0, .chan .ch0, .gen .p] →
  ∃ t, core.run (3 * bytes.length) s = .next t ∧
    t = { s with
      ch0 := { s.ch0 with
        readAddr := p + BitVec.ofNat 32 bytes.length, tcRemain := 0#32, ctrl := ctrlA, hold := t.ch0.hold }
      ch1 := { s.ch1 with tcRemain := 1#32, phase := .read, ctrl := Ctrl.putBusy true ctrlB }
      pixOut := s.pixOut ++ bytes, stepNo := s.stepNo + 3 * bytes.length, sched := [] }

/-- 42_scanout_chain.md R206: a pass of B: two steps of channel 1 write the pointer cell's value, of any alignment
(assumption 17), into A's READ_ADDR and start A again with its full count. -/
def Obligations.Rearm : Prop := ∀ s : State,
  ScanoutWired s → s.params.legal = true → Ctrl.busy s.ch0.ctrl = false → Ctrl.busy s.ch1.ctrl = true →
  s.ch1.phase = .read → s.ch1.tcRemain = 1#32 → s.sched = [.chan .ch1, .chan .ch1] →
  let q := memRead s.ch1.readAddr .word s
  core.run 2 s = .next { s with
    ch0 := { s.ch0 with
      readAddr := q, tcRemain := s.ch0.tcReload, phase := .read, ctrl := Ctrl.putBusy true ctrlA }
    ch1 := { s.ch1 with tcRemain := 0#32, phase := .read, hold := q, ctrl := ctrlB }
    stepNo := s.stepNo + 2, sched := [] }

/-- 42_scanout_chain.md R208, R210: the framebuffer repeated. From a pass of A about to begin, with the pointer cell holding
the address it begins at, of any alignment (assumption 17), any number of passes and re-arms display the framebuffer's
bytes that number of times over. -/
def Obligations.FramebufferRepeats : Prop := ∀ (s : State) (p : Addr) (bytes : List Byte) (k : Nat),
  ScanoutWired s → s.params.legal = true → Ctrl.busy s.ch0.ctrl = true → Ctrl.busy s.ch1.ctrl = false →
  s.ch0.phase = .read → s.ch0.readAddr = p → s.ch0.tcRemain = s.ch0.tcReload →
  s.ch0.tcReload = BitVec.ofNat 32 bytes.length → bytes.length < 2 ^ 32 →
  passMapped s.params p bytes.length →
  (∀ j (h : j < bytes.length), s.mem.read? (addrAt p j).toNat = some bytes[j]) →
  (∀ j, j < 4 → s.mem.read? (addrAt s.ch1.readAddr j).toNat = some (p.extractLsb' (8 * j) 8)) →
  s.pixQ = [] → s.genEnable.getLsbD 2 = true → s.genP.loaded = true → s.genP.latched = true →
  s.sched = repeatTurns k
    (repeatTurns bytes.length [.chan .ch0, .chan .ch0, .gen .p] ++ [.chan .ch1, .chan .ch1]) →
  ∃ t, core.run (k * (3 * bytes.length + 2)) s = .next t ∧
    t.pixOut = s.pixOut ++ (List.replicate k bytes).flatten ∧ t.mem = s.mem ∧
    chainState t = .streaming ∧ t.ch0.readAddr = p ∧ t.ch0.tcRemain = t.ch0.tcReload ∧ t.faults = s.faults

/-- 42_scanout_chain.md R207: while the chain is left alone every step keeps it running, so exactly one of A and B is busy.
R207 (d) names only the host's writes and triggers and the other channels' writes of the two channels' registers; a
trigger of channel 0 or 1 by channel 2, through MULTI_TRIG or its chain, breaks it as well, so `Undisturbed` rules that out
too (assumption 21). The pointer cell's value may have any alignment (assumption 17). -/
def Obligations.ChainAlternates : Prop := ∀ s t : State, s.params.legal = true → ChainRunning s → Undisturbed s →
  step s = .next t →
  ChainRunning t ∧ (chainState t = .streaming ∨ chainState t = .reconfiguring)

/-- 45_startup_sequencer.md R298; 42_scanout_chain.md R207, R214: the arm phase of a wired chain starts it, in Streaming. -/
def Obligations.ArmStartsChain : Prop := ∀ s : State, nextAgent s = .seq → s.seqState = .arm → ScanoutWired s →
  Ctrl.busy s.ch0.ctrl = false → Ctrl.busy s.ch1.ctrl = false →
  passMapped s.params s.ch0.readAddr s.ch0.tcReload.toNat →
  ∃ t, step s = .next t ∧ ChainRunning t ∧ chainState t = .streaming

/-- 42_scanout_chain.md R213: a framebuffer read of A that fails, or a pointer-cell read of B that is misaligned or fails,
stops the channel with READ_ERR and without a trigger of the other; nothing else changes, and the chain is Dead.
70_reset_and_hazards.md R369: after a re-arm with a pointer-cell value that is not aligned for A's element size (20_memory.md
R97, assumption 17) or at which A's read fails, A's first read of the next pass leaves the chain Dead. -/
def Obligations.ChainDies : Prop := ∀ s : State, Ctrl.putBusy false s.ch1.ctrl = ctrlB →
  (Ctrl.putBusy false s.ch0.ctrl = ctrlA → nextAgent s = .chan .ch0 → Ctrl.busy s.ch0.ctrl = true →
    Ctrl.busy s.ch1.ctrl = false → s.ch0.phase = .read → s.pixQ.length < s.params.pixDepth → busRead s.ch0.readAddr .byte s = none →
    ∃ t, step s = .next t ∧ chainState t = .dead ∧ t = { s with
      ch0 := { s.ch0 with ctrl := 0x40001111#32 }
      faults := s.faults ++ [.readErr .ch0 s.ch0.readAddr], sched := s.sched.tail, stepNo := s.stepNo + 1 }) ∧
  (nextAgent s = .chan .ch1 → Ctrl.busy s.ch0.ctrl = false → Ctrl.busy s.ch1.ctrl = true → s.ch1.phase = .read →
    s.ch1.readAddr.toNat % 4 ≠ 0 ∨ busRead s.ch1.readAddr .word s = none →
    ∃ t, step s = .next t ∧ chainState t = .dead ∧ t = { s with
      ch1 := { s.ch1 with ctrl := 0x40000009#32 }
      faults := s.faults ++ [.readErr .ch1 s.ch1.readAddr], sched := s.sched.tail, stepNo := s.stepNo + 1 }) ∧
  (∀ sz : Size, s.params.legal = true → Ctrl.busy s.ch1.ctrl = true → s.ch1.phase = .read → s.ch1.tcRemain = 1#32 →
    s.ch1.writeAddr = ch0ReadAddrAddr s.params → aligned s.ch1.readAddr .word = true →
    passMapped s.params s.ch1.readAddr 4 →
    Ctrl.busy s.ch0.ctrl = false → Ctrl.err s.ch0.ctrl = false → Ctrl.en s.ch0.ctrl = true →
    Ctrl.configLegal s.ch0.ctrl = true → Ctrl.dataSize s.ch0.ctrl = sz.code → s.ch0.tcReload ≠ 0#32 →
    s.pixQ.length < s.params.pixDepth → s.sched = [.chan .ch1, .chan .ch1, .chan .ch0] →
    let q := memRead s.ch1.readAddr .word s
    q.toNat % sz.bytes ≠ 0 ∨ busRead q sz s = none →
    ∃ t, core.run 3 s = .next t ∧ chainState t = .dead ∧ t = { s with
      ch0 := { s.ch0 with
        readAddr := q, tcRemain := s.ch0.tcReload, phase := .read, ctrl := s.ch0.ctrl ||| 0x40000000#32 }
      ch1 := { s.ch1 with tcRemain := 0#32, phase := .read, hold := q, ctrl := ctrlB }
      faults := s.faults ++ [.readErr .ch0 q], sched := [], stepNo := s.stepNo + 3 })

/-! ### Fills that move nothing or fail -/

/-- 43_memory_transfer.md R225, R221, R227: a fill of count 0 writes the source byte and nothing else. A fill whose source is
unmapped goes on past its store, a host-access fault of some kind (assumption 11), and ends with READ_ERR at the first
element. A fill whose destination byte `k` is the first unmapped one ends with WRITE_ERR there, the bytes before it
written. -/
def Obligations.FillOfNothingOrFailing : Prop :=
  ∀ (s : State) (dest src : Addr) (value : Byte) (count : Word) (rest : List HostOp),
  let c := s.ch2
  let ctrl := (c.ctrl &&& ~~~0x0000373D#32) ||| 0x00000221#32
  Ctrl.busy c.ctrl = false → Ctrl.err c.ctrl = false → s.hostQ = fillProc dest value count src ++ rest →
  (count = 0#32 → isMemory s.params src = true → s.sched = List.replicate 8 .host →
    ∃ t, core.run 8 s = .next t ∧ t.mem.read? src.toNat = some value ∧
      (∀ x : Nat, x ≠ src.toNat → t.mem.read? x = s.mem.read? x) ∧
      t = { s with
        ch2 := { c with readAddr := src, writeAddr := dest, tcReload := 0#32, tcRemain := 0#32, ctrl := ctrl }
        mem := t.mem, stepNo := s.stepNo + 8, sched := [], hostQ := rest, resp := t.resp }) ∧
  (count ≠ 0#32 → inWindow s.params src = false → memMapped s.params src = false →
    s.sched = List.replicate 7 .host ++ [.chan .ch2, .host] →
    ∃ t, ∃ kind : HostFaultKind, core.run 9 s = .next t ∧
      t = { s with
        ch2 := { c with
          readAddr := src, writeAddr := dest, tcReload := count, tcRemain := count, phase := .read
          ctrl := ctrl ||| 0x40000000#32 }
        faults := s.faults ++ [.hostFault kind none, .readErr .ch2 src]
        stepNo := s.stepNo + 9, sched := [], hostQ := rest, resp := t.resp }) ∧
  (∀ k, k < count.toNat → isMemory s.params src = true → passMapped s.params dest k →
    inWindow s.params (addrAt dest k) = false → memMapped s.params (addrAt dest k) = false →
    s.sched = List.replicate 7 .host ++ List.replicate (2 * (k + 1)) (.chan .ch2) ++ [.host] →
    ∃ t, core.run (2 * k + 10) s = .next t ∧
      (∀ i, i < k → t.mem.read? (addrAt dest i).toNat = some value) ∧ t.mem.read? src.toNat = some value ∧
      (∀ x : Nat, x ≠ src.toNat → (∀ i, i < k → x ≠ (addrAt dest i).toNat) → t.mem.read? x = s.mem.read? x) ∧
      t = { s with
        ch2 := { c with
          readAddr := src, writeAddr := addrAt dest k, tcReload := count, tcRemain := count - BitVec.ofNat 32 k
          phase := .write, hold := value.setWidth 32, ctrl := ctrl ||| 0x80000000#32 }
        faults := s.faults ++ [.writeErr .ch2 (addrAt dest k)], mem := t.mem
        stepNo := s.stepNo + (2 * k + 10), sched := [], hostQ := rest, resp := t.resp })
end

