-- ==== Sys2Proof/Laws/Decode.lean ====
section
/-! SUPPORT. The register map and the decoder (30_encoding.md R127, R130): offsets name registers both ways, and what a
decoded transaction is. -/

namespace Sys2Proof

/-- A register is found at its own offset. -/
@[simp] theorem Reg.ofOffset_offset (r : Reg) : Reg.ofOffset? r.offset = some r := by
  cases r with
  | chReadAddr n => cases n <;> decide
  | chWriteAddr n => cases n <;> decide
  | chTransCount n => cases n <;> decide
  | chCtrl n => cases n <;> decide
  | genParam g => cases g <;> decide
  | seqCfg c => cases c <;> decide
  | _ => decide

/-- The register found at an offset has that offset. -/
theorem Reg.offset_of_ofOffset {off : BitVec 12} {r : Reg} (h : Reg.ofOffset? off = some r) : r.offset = off := by
  have := List.find?_some h
  simpa using this

/-- A register's read instruction reads that register. -/
@[simp] theorem Reg.readInstr_access (r : Reg) : r.readInstr.access = (r, .read) := by
  cases r with
  | chReadAddr n => cases n <;> rfl
  | chWriteAddr n => cases n <;> rfl
  | chTransCount n => cases n <;> rfl
  | chCtrl n => cases n <;> rfl
  | genParam g => cases g <;> rfl
  | seqCfg c => cases c <;> rfl
  | _ => rfl

/-- A register's write instruction writes that register, with the size where the register allows it. -/
theorem Reg.writeInstr_access (r : Reg) (sz : Size) (v : Word) (h : sz = .word ∨ r = .pixTxf) :
    (r.writeInstr sz v).access = (r, .write sz v) := by
  rcases h with rfl | rfl
  · cases r with
    | chReadAddr n => cases n <;> rfl
    | chWriteAddr n => cases n <;> rfl
    | chTransCount n => cases n <;> rfl
    | chCtrl n => cases n <;> rfl
    | genParam g => cases g <;> rfl
    | seqCfg c => cases c <;> rfl
    | _ => rfl
  · cases sz <;> rfl

/-- A size is named by its code and by no other. -/
@[simp] theorem Size.ofCode_code (sz : Size) : Size.ofCode? sz.code = some sz := by cases sz <;> rfl

theorem Size.code_of_ofCode {z : BitVec 2} {sz : Size} (h : Size.ofCode? z = some sz) : sz.code = z := by
  revert z sz; decide

/-- What a decoded transaction is: the read of a register, or a write of an allowed size (30_encoding.md R130). -/
theorem decode_ok {t : Transaction} {i : Instr} (h : decode t = .ok i) :
    ∃ r, Reg.ofOffset? (t.hdr.extractLsb' 0 12) = some r ∧ t.hdr.getLsbD 14 = false ∧
      ((t.hdr.getLsbD 15 = false ∧ t.hdr.extractLsb' 12 2 = 2#2 ∧ i = r.readInstr) ∨
       (∃ sz, t.hdr.getLsbD 15 = true ∧ t.hdr.extractLsb' 12 2 = sz.code ∧ (sz = .word ∨ r = .pixTxf) ∧
          i = r.writeInstr sz (narrow sz t.data))) := by
  unfold decode at h
  dsimp only at h
  split at h
  · exact absurd h (by simp)
  · exact absurd h (by simp)
  · rename_i sz h14 hsz
    have hz := (Size.code_of_ofCode hsz).symm
    split at h
    · exact absurd h (by simp)
    · rename_i hnr
      split at h
      · exact absurd h (by simp)
      · rename_i r hr
        refine ⟨r, hr, h14, ?_⟩
        split at h
        · exact absurd h (by simp)
        · rename_i hnw
          cases hw : t.hdr.getLsbD 15 with
          | true =>
            right
            refine ⟨sz, rfl, hz, ?_, ?_⟩
            · by_contra hcon
              rw [not_or] at hcon
              exact hnw ⟨hw, hcon.1, hcon.2⟩
            · rw [if_pos hw] at h
              exact (Except.ok.inj h).symm
          | false =>
            left
            have hword : sz = .word := by
              by_contra hcon
              exact hnr ⟨hw, hcon⟩
            subst hword
            refine ⟨rfl, hz, ?_⟩
            rw [if_neg (by rw [hw]; decide)] at h
            exact (Except.ok.inj h).symm

/-- A transaction with bit 15 clear decodes to a read, if it decodes at all. -/
theorem decode_ok_read {t : Transaction} {i : Instr} (h : decode t = .ok i) (hw : t.hdr.getLsbD 15 = false) :
    i.access.2 = .read := by
  obtain ⟨r, _, _, ⟨_, _, rfl⟩ | ⟨sz, h15, _⟩⟩ := decode_ok h
  · simp
  · rw [hw] at h15; cases h15

/-- The fields of a header that is put together. -/
theorem mkHeader_bit15 (w : Bool) (sz : Size) (off : BitVec 12) : (mkHeader w sz off).getLsbD 15 = w := by
  simp only [mkHeader, BitVec.getLsbD_append]
  cases w <;> cases sz <;> rfl

theorem mkHeader_bit14 (w : Bool) (sz : Size) (off : BitVec 12) : (mkHeader w sz off).getLsbD 14 = false := by
  simp only [mkHeader, BitVec.getLsbD_append]
  cases w <;> cases sz <;> rfl

@[simp] theorem mkHeader_size (w : Bool) (sz : Size) (off : BitVec 12) :
    (mkHeader w sz off).extractLsb' 12 2 = sz.code := by
  apply BitVec.eq_of_getLsbD_eq
  intro i hi
  rw [BitVec.getLsbD_extractLsb']
  have : i = 0 ∨ i = 1 := by omega
  simp only [mkHeader, BitVec.getLsbD_append]
  rcases this with rfl | rfl <;> cases w <;> cases sz <;> rfl

@[simp] theorem mkHeader_offset (w : Bool) (sz : Size) (off : BitVec 12) :
    (mkHeader w sz off).extractLsb' 0 12 = off := by
  apply BitVec.eq_of_getLsbD_eq
  intro i hi
  rw [BitVec.getLsbD_extractLsb']
  simp only [mkHeader, BitVec.getLsbD_append]
  simp [hi]

/-- The decoder on a header that is put together from a direction, a size and an offset (30_encoding.md R130). -/
theorem decode_mkHeader (w : Bool) (sz : Size) (off : BitVec 12) (v : Word) :
    decode ⟨mkHeader w sz off, v⟩ =
      if w = false ∧ sz ≠ .word then .error .narrowRead
      else match Reg.ofOffset? off with
        | none => .error .undefinedOffset
        | some r =>
          if w = true ∧ sz ≠ .word ∧ r ≠ .pixTxf then .error .narrowWrite
          else if w = true then .ok (r.writeInstr sz (narrow sz v))
          else .ok r.readInstr := by
  unfold decode
  simp only [mkHeader_bit15, mkHeader_bit14, mkHeader_size, mkHeader_offset, Size.ofCode_code] <;>
    cases Reg.ofOffset? off <;> rfl

end Sys2Proof
end

