-- ==== Sys2Proof/Laws/State.lean ====
section
/-! SUPPORT. One lemma per field per update of the state, each true by rfl, so that no later proof unfolds a record
update. -/

namespace Sys2Proof.Machine

variable (s : State)

/-! ### State.setCh -/

@[simp] theorem State.setCh_params (n : Chan) (c : Channel) : (s.setCh n c).params = s.params := rfl
@[simp] theorem State.setCh_resClaim (n : Chan) (c : Channel) : (s.setCh n c).resClaim = s.resClaim := rfl
@[simp] theorem State.setCh_genEnable (n : Chan) (c : Channel) : (s.setCh n c).genEnable = s.genEnable := rfl
@[simp] theorem State.setCh_genH (n : Chan) (c : Channel) : (s.setCh n c).genH = s.genH := rfl
@[simp] theorem State.setCh_genV (n : Chan) (c : Channel) : (s.setCh n c).genV = s.genV := rfl
@[simp] theorem State.setCh_genP (n : Chan) (c : Channel) : (s.setCh n c).genP = s.genP := rfl
@[simp] theorem State.setCh_pixQ (n : Chan) (c : Channel) : (s.setCh n c).pixQ = s.pixQ := rfl
@[simp] theorem State.setCh_pixTxOver (n : Chan) (c : Channel) : (s.setCh n c).pixTxOver = s.pixTxOver := rfl
@[simp] theorem State.setCh_paramOver (n : Chan) (c : Channel) : (s.setCh n c).paramOver = s.paramOver := rfl
@[simp] theorem State.setCh_noprogErr (n : Chan) (c : Channel) : (s.setCh n c).noprogErr = s.noprogErr := rfl
@[simp] theorem State.setCh_imemUsed (n : Chan) (c : Channel) : (s.setCh n c).imemUsed = s.imemUsed := rfl
@[simp] theorem State.setCh_seqFbBase (n : Chan) (c : Channel) : (s.setCh n c).seqFbBase = s.seqFbBase := rfl
@[simp] theorem State.setCh_seqFbLen (n : Chan) (c : Channel) : (s.setCh n c).seqFbLen = s.seqFbLen := rfl
@[simp] theorem State.setCh_seqPtrAddr (n : Chan) (c : Channel) : (s.setCh n c).seqPtrAddr = s.seqPtrAddr := rfl
@[simp] theorem State.setCh_seqParamH (n : Chan) (c : Channel) : (s.setCh n c).seqParamH = s.seqParamH := rfl
@[simp] theorem State.setCh_seqParamV (n : Chan) (c : Channel) : (s.setCh n c).seqParamV = s.seqParamV := rfl
@[simp] theorem State.setCh_seqParamP (n : Chan) (c : Channel) : (s.setCh n c).seqParamP = s.seqParamP := rfl
@[simp] theorem State.setCh_seqPins (n : Chan) (c : Channel) : (s.setCh n c).seqPins = s.seqPins := rfl
@[simp] theorem State.setCh_seqState (n : Chan) (c : Channel) : (s.setCh n c).seqState = s.seqState := rfl
@[simp] theorem State.setCh_failCode (n : Chan) (c : Channel) : (s.setCh n c).failCode = s.failCode := rfl
@[simp] theorem State.setCh_doubleStart (n : Chan) (c : Channel) : (s.setCh n c).doubleStart = s.doubleStart := rfl
@[simp] theorem State.setCh_mem (n : Chan) (c : Channel) : (s.setCh n c).mem = s.mem := rfl
@[simp] theorem State.setCh_pixOut (n : Chan) (c : Channel) : (s.setCh n c).pixOut = s.pixOut := rfl
@[simp] theorem State.setCh_faults (n : Chan) (c : Channel) : (s.setCh n c).faults = s.faults := rfl
@[simp] theorem State.setCh_stepNo (n : Chan) (c : Channel) : (s.setCh n c).stepNo = s.stepNo := rfl
@[simp] theorem State.setCh_sched (n : Chan) (c : Channel) : (s.setCh n c).sched = s.sched := rfl
@[simp] theorem State.setCh_hostQ (n : Chan) (c : Channel) : (s.setCh n c).hostQ = s.hostQ := rfl
@[simp] theorem State.setCh_resp (n : Chan) (c : Channel) : (s.setCh n c).resp = s.resp := rfl
@[simp] theorem State.setCh_gen (n : Chan) (c : Channel) (k : Gen) : (s.setCh n c).gen k = s.gen k := by cases k <;> rfl

/-! ### State.setGen -/

@[simp] theorem State.setGen_params (g : Gen) (x : Generator) : (s.setGen g x).params = s.params := rfl
@[simp] theorem State.setGen_ch0 (g : Gen) (x : Generator) : (s.setGen g x).ch0 = s.ch0 := rfl
@[simp] theorem State.setGen_ch1 (g : Gen) (x : Generator) : (s.setGen g x).ch1 = s.ch1 := rfl
@[simp] theorem State.setGen_ch2 (g : Gen) (x : Generator) : (s.setGen g x).ch2 = s.ch2 := rfl
@[simp] theorem State.setGen_resClaim (g : Gen) (x : Generator) : (s.setGen g x).resClaim = s.resClaim := rfl
@[simp] theorem State.setGen_genEnable (g : Gen) (x : Generator) : (s.setGen g x).genEnable = s.genEnable := rfl
@[simp] theorem State.setGen_pixQ (g : Gen) (x : Generator) : (s.setGen g x).pixQ = s.pixQ := rfl
@[simp] theorem State.setGen_pixTxOver (g : Gen) (x : Generator) : (s.setGen g x).pixTxOver = s.pixTxOver := rfl
@[simp] theorem State.setGen_paramOver (g : Gen) (x : Generator) : (s.setGen g x).paramOver = s.paramOver := rfl
@[simp] theorem State.setGen_noprogErr (g : Gen) (x : Generator) : (s.setGen g x).noprogErr = s.noprogErr := rfl
@[simp] theorem State.setGen_imemUsed (g : Gen) (x : Generator) : (s.setGen g x).imemUsed = s.imemUsed := rfl
@[simp] theorem State.setGen_seqFbBase (g : Gen) (x : Generator) : (s.setGen g x).seqFbBase = s.seqFbBase := rfl
@[simp] theorem State.setGen_seqFbLen (g : Gen) (x : Generator) : (s.setGen g x).seqFbLen = s.seqFbLen := rfl
@[simp] theorem State.setGen_seqPtrAddr (g : Gen) (x : Generator) : (s.setGen g x).seqPtrAddr = s.seqPtrAddr := rfl
@[simp] theorem State.setGen_seqParamH (g : Gen) (x : Generator) : (s.setGen g x).seqParamH = s.seqParamH := rfl
@[simp] theorem State.setGen_seqParamV (g : Gen) (x : Generator) : (s.setGen g x).seqParamV = s.seqParamV := rfl
@[simp] theorem State.setGen_seqParamP (g : Gen) (x : Generator) : (s.setGen g x).seqParamP = s.seqParamP := rfl
@[simp] theorem State.setGen_seqPins (g : Gen) (x : Generator) : (s.setGen g x).seqPins = s.seqPins := rfl
@[simp] theorem State.setGen_seqState (g : Gen) (x : Generator) : (s.setGen g x).seqState = s.seqState := rfl
@[simp] theorem State.setGen_failCode (g : Gen) (x : Generator) : (s.setGen g x).failCode = s.failCode := rfl
@[simp] theorem State.setGen_doubleStart (g : Gen) (x : Generator) : (s.setGen g x).doubleStart = s.doubleStart := rfl
@[simp] theorem State.setGen_mem (g : Gen) (x : Generator) : (s.setGen g x).mem = s.mem := rfl
@[simp] theorem State.setGen_pixOut (g : Gen) (x : Generator) : (s.setGen g x).pixOut = s.pixOut := rfl
@[simp] theorem State.setGen_faults (g : Gen) (x : Generator) : (s.setGen g x).faults = s.faults := rfl
@[simp] theorem State.setGen_stepNo (g : Gen) (x : Generator) : (s.setGen g x).stepNo = s.stepNo := rfl
@[simp] theorem State.setGen_sched (g : Gen) (x : Generator) : (s.setGen g x).sched = s.sched := rfl
@[simp] theorem State.setGen_hostQ (g : Gen) (x : Generator) : (s.setGen g x).hostQ = s.hostQ := rfl
@[simp] theorem State.setGen_resp (g : Gen) (x : Generator) : (s.setGen g x).resp = s.resp := rfl
@[simp] theorem State.setGen_ch (g : Gen) (x : Generator) (m : Chan) : (s.setGen g x).ch m = s.ch m := by cases m <;> rfl

/-! ### State.modCtrl -/

@[simp] theorem State.modCtrl_params (n : Chan) (f : Word → Word) : (s.modCtrl n f).params = s.params := rfl
@[simp] theorem State.modCtrl_resClaim (n : Chan) (f : Word → Word) : (s.modCtrl n f).resClaim = s.resClaim := rfl
@[simp] theorem State.modCtrl_genEnable (n : Chan) (f : Word → Word) : (s.modCtrl n f).genEnable = s.genEnable := rfl
@[simp] theorem State.modCtrl_genH (n : Chan) (f : Word → Word) : (s.modCtrl n f).genH = s.genH := rfl
@[simp] theorem State.modCtrl_genV (n : Chan) (f : Word → Word) : (s.modCtrl n f).genV = s.genV := rfl
@[simp] theorem State.modCtrl_genP (n : Chan) (f : Word → Word) : (s.modCtrl n f).genP = s.genP := rfl
@[simp] theorem State.modCtrl_pixQ (n : Chan) (f : Word → Word) : (s.modCtrl n f).pixQ = s.pixQ := rfl
@[simp] theorem State.modCtrl_pixTxOver (n : Chan) (f : Word → Word) : (s.modCtrl n f).pixTxOver = s.pixTxOver := rfl
@[simp] theorem State.modCtrl_paramOver (n : Chan) (f : Word → Word) : (s.modCtrl n f).paramOver = s.paramOver := rfl
@[simp] theorem State.modCtrl_noprogErr (n : Chan) (f : Word → Word) : (s.modCtrl n f).noprogErr = s.noprogErr := rfl
@[simp] theorem State.modCtrl_imemUsed (n : Chan) (f : Word → Word) : (s.modCtrl n f).imemUsed = s.imemUsed := rfl
@[simp] theorem State.modCtrl_seqFbBase (n : Chan) (f : Word → Word) : (s.modCtrl n f).seqFbBase = s.seqFbBase := rfl
@[simp] theorem State.modCtrl_seqFbLen (n : Chan) (f : Word → Word) : (s.modCtrl n f).seqFbLen = s.seqFbLen := rfl
@[simp] theorem State.modCtrl_seqPtrAddr (n : Chan) (f : Word → Word) : (s.modCtrl n f).seqPtrAddr = s.seqPtrAddr := rfl
@[simp] theorem State.modCtrl_seqParamH (n : Chan) (f : Word → Word) : (s.modCtrl n f).seqParamH = s.seqParamH := rfl
@[simp] theorem State.modCtrl_seqParamV (n : Chan) (f : Word → Word) : (s.modCtrl n f).seqParamV = s.seqParamV := rfl
@[simp] theorem State.modCtrl_seqParamP (n : Chan) (f : Word → Word) : (s.modCtrl n f).seqParamP = s.seqParamP := rfl
@[simp] theorem State.modCtrl_seqPins (n : Chan) (f : Word → Word) : (s.modCtrl n f).seqPins = s.seqPins := rfl
@[simp] theorem State.modCtrl_seqState (n : Chan) (f : Word → Word) : (s.modCtrl n f).seqState = s.seqState := rfl
@[simp] theorem State.modCtrl_failCode (n : Chan) (f : Word → Word) : (s.modCtrl n f).failCode = s.failCode := rfl
@[simp] theorem State.modCtrl_doubleStart (n : Chan) (f : Word → Word) : (s.modCtrl n f).doubleStart = s.doubleStart := rfl
@[simp] theorem State.modCtrl_mem (n : Chan) (f : Word → Word) : (s.modCtrl n f).mem = s.mem := rfl
@[simp] theorem State.modCtrl_pixOut (n : Chan) (f : Word → Word) : (s.modCtrl n f).pixOut = s.pixOut := rfl
@[simp] theorem State.modCtrl_faults (n : Chan) (f : Word → Word) : (s.modCtrl n f).faults = s.faults := rfl
@[simp] theorem State.modCtrl_stepNo (n : Chan) (f : Word → Word) : (s.modCtrl n f).stepNo = s.stepNo := rfl
@[simp] theorem State.modCtrl_sched (n : Chan) (f : Word → Word) : (s.modCtrl n f).sched = s.sched := rfl
@[simp] theorem State.modCtrl_hostQ (n : Chan) (f : Word → Word) : (s.modCtrl n f).hostQ = s.hostQ := rfl
@[simp] theorem State.modCtrl_resp (n : Chan) (f : Word → Word) : (s.modCtrl n f).resp = s.resp := rfl
@[simp] theorem State.modCtrl_gen (n : Chan) (f : Word → Word) (k : Gen) : (s.modCtrl n f).gen k = s.gen k := by cases k <;> rfl

/-! ### acked -/

@[simp] theorem acked_params : (acked s).params = s.params := rfl
@[simp] theorem acked_ch0 : (acked s).ch0 = s.ch0 := rfl
@[simp] theorem acked_ch1 : (acked s).ch1 = s.ch1 := rfl
@[simp] theorem acked_ch2 : (acked s).ch2 = s.ch2 := rfl
@[simp] theorem acked_resClaim : (acked s).resClaim = s.resClaim := rfl
@[simp] theorem acked_genEnable : (acked s).genEnable = s.genEnable := rfl
@[simp] theorem acked_genH : (acked s).genH = s.genH := rfl
@[simp] theorem acked_genV : (acked s).genV = s.genV := rfl
@[simp] theorem acked_genP : (acked s).genP = s.genP := rfl
@[simp] theorem acked_pixQ : (acked s).pixQ = s.pixQ := rfl
@[simp] theorem acked_pixTxOver : (acked s).pixTxOver = s.pixTxOver := rfl
@[simp] theorem acked_paramOver : (acked s).paramOver = s.paramOver := rfl
@[simp] theorem acked_noprogErr : (acked s).noprogErr = s.noprogErr := rfl
@[simp] theorem acked_imemUsed : (acked s).imemUsed = s.imemUsed := rfl
@[simp] theorem acked_seqFbBase : (acked s).seqFbBase = s.seqFbBase := rfl
@[simp] theorem acked_seqFbLen : (acked s).seqFbLen = s.seqFbLen := rfl
@[simp] theorem acked_seqPtrAddr : (acked s).seqPtrAddr = s.seqPtrAddr := rfl
@[simp] theorem acked_seqParamH : (acked s).seqParamH = s.seqParamH := rfl
@[simp] theorem acked_seqParamV : (acked s).seqParamV = s.seqParamV := rfl
@[simp] theorem acked_seqParamP : (acked s).seqParamP = s.seqParamP := rfl
@[simp] theorem acked_seqPins : (acked s).seqPins = s.seqPins := rfl
@[simp] theorem acked_seqState : (acked s).seqState = s.seqState := rfl
@[simp] theorem acked_failCode : (acked s).failCode = s.failCode := rfl
@[simp] theorem acked_doubleStart : (acked s).doubleStart = s.doubleStart := rfl
@[simp] theorem acked_mem : (acked s).mem = s.mem := rfl
@[simp] theorem acked_pixOut : (acked s).pixOut = s.pixOut := rfl
@[simp] theorem acked_faults : (acked s).faults = s.faults := rfl
@[simp] theorem acked_stepNo : (acked s).stepNo = s.stepNo := rfl
@[simp] theorem acked_sched : (acked s).sched = s.sched := rfl
@[simp] theorem acked_hostQ : (acked s).hostQ = s.hostQ := rfl
@[simp] theorem acked_resp : (acked s).resp = .ack := rfl
@[simp] theorem acked_ch (m : Chan) : (acked s).ch m = s.ch m := by cases m <;> rfl
@[simp] theorem acked_gen (k : Gen) : (acked s).gen k = s.gen k := by cases k <;> rfl

/-! ### returned -/

@[simp] theorem returned_params (v : Word) : (returned v s).params = s.params := rfl
@[simp] theorem returned_ch0 (v : Word) : (returned v s).ch0 = s.ch0 := rfl
@[simp] theorem returned_ch1 (v : Word) : (returned v s).ch1 = s.ch1 := rfl
@[simp] theorem returned_ch2 (v : Word) : (returned v s).ch2 = s.ch2 := rfl
@[simp] theorem returned_resClaim (v : Word) : (returned v s).resClaim = s.resClaim := rfl
@[simp] theorem returned_genEnable (v : Word) : (returned v s).genEnable = s.genEnable := rfl
@[simp] theorem returned_genH (v : Word) : (returned v s).genH = s.genH := rfl
@[simp] theorem returned_genV (v : Word) : (returned v s).genV = s.genV := rfl
@[simp] theorem returned_genP (v : Word) : (returned v s).genP = s.genP := rfl
@[simp] theorem returned_pixQ (v : Word) : (returned v s).pixQ = s.pixQ := rfl
@[simp] theorem returned_pixTxOver (v : Word) : (returned v s).pixTxOver = s.pixTxOver := rfl
@[simp] theorem returned_paramOver (v : Word) : (returned v s).paramOver = s.paramOver := rfl
@[simp] theorem returned_noprogErr (v : Word) : (returned v s).noprogErr = s.noprogErr := rfl
@[simp] theorem returned_imemUsed (v : Word) : (returned v s).imemUsed = s.imemUsed := rfl
@[simp] theorem returned_seqFbBase (v : Word) : (returned v s).seqFbBase = s.seqFbBase := rfl
@[simp] theorem returned_seqFbLen (v : Word) : (returned v s).seqFbLen = s.seqFbLen := rfl
@[simp] theorem returned_seqPtrAddr (v : Word) : (returned v s).seqPtrAddr = s.seqPtrAddr := rfl
@[simp] theorem returned_seqParamH (v : Word) : (returned v s).seqParamH = s.seqParamH := rfl
@[simp] theorem returned_seqParamV (v : Word) : (returned v s).seqParamV = s.seqParamV := rfl
@[simp] theorem returned_seqParamP (v : Word) : (returned v s).seqParamP = s.seqParamP := rfl
@[simp] theorem returned_seqPins (v : Word) : (returned v s).seqPins = s.seqPins := rfl
@[simp] theorem returned_seqState (v : Word) : (returned v s).seqState = s.seqState := rfl
@[simp] theorem returned_failCode (v : Word) : (returned v s).failCode = s.failCode := rfl
@[simp] theorem returned_doubleStart (v : Word) : (returned v s).doubleStart = s.doubleStart := rfl
@[simp] theorem returned_mem (v : Word) : (returned v s).mem = s.mem := rfl
@[simp] theorem returned_pixOut (v : Word) : (returned v s).pixOut = s.pixOut := rfl
@[simp] theorem returned_faults (v : Word) : (returned v s).faults = s.faults := rfl
@[simp] theorem returned_stepNo (v : Word) : (returned v s).stepNo = s.stepNo := rfl
@[simp] theorem returned_sched (v : Word) : (returned v s).sched = s.sched := rfl
@[simp] theorem returned_hostQ (v : Word) : (returned v s).hostQ = s.hostQ := rfl
@[simp] theorem returned_resp (v : Word) : (returned v s).resp = .data v := rfl
@[simp] theorem returned_ch (v : Word) (m : Chan) : (returned v s).ch m = s.ch m := by cases m <;> rfl
@[simp] theorem returned_gen (v : Word) (k : Gen) : (returned v s).gen k = s.gen k := by cases k <;> rfl

/-! ### takeTurn -/

@[simp] theorem takeTurn_params : (takeTurn s).params = s.params := rfl
@[simp] theorem takeTurn_ch0 : (takeTurn s).ch0 = s.ch0 := rfl
@[simp] theorem takeTurn_ch1 : (takeTurn s).ch1 = s.ch1 := rfl
@[simp] theorem takeTurn_ch2 : (takeTurn s).ch2 = s.ch2 := rfl
@[simp] theorem takeTurn_resClaim : (takeTurn s).resClaim = s.resClaim := rfl
@[simp] theorem takeTurn_genEnable : (takeTurn s).genEnable = s.genEnable := rfl
@[simp] theorem takeTurn_genH : (takeTurn s).genH = s.genH := rfl
@[simp] theorem takeTurn_genV : (takeTurn s).genV = s.genV := rfl
@[simp] theorem takeTurn_genP : (takeTurn s).genP = s.genP := rfl
@[simp] theorem takeTurn_pixQ : (takeTurn s).pixQ = s.pixQ := rfl
@[simp] theorem takeTurn_pixTxOver : (takeTurn s).pixTxOver = s.pixTxOver := rfl
@[simp] theorem takeTurn_paramOver : (takeTurn s).paramOver = s.paramOver := rfl
@[simp] theorem takeTurn_noprogErr : (takeTurn s).noprogErr = s.noprogErr := rfl
@[simp] theorem takeTurn_imemUsed : (takeTurn s).imemUsed = s.imemUsed := rfl
@[simp] theorem takeTurn_seqFbBase : (takeTurn s).seqFbBase = s.seqFbBase := rfl
@[simp] theorem takeTurn_seqFbLen : (takeTurn s).seqFbLen = s.seqFbLen := rfl
@[simp] theorem takeTurn_seqPtrAddr : (takeTurn s).seqPtrAddr = s.seqPtrAddr := rfl
@[simp] theorem takeTurn_seqParamH : (takeTurn s).seqParamH = s.seqParamH := rfl
@[simp] theorem takeTurn_seqParamV : (takeTurn s).seqParamV = s.seqParamV := rfl
@[simp] theorem takeTurn_seqParamP : (takeTurn s).seqParamP = s.seqParamP := rfl
@[simp] theorem takeTurn_seqPins : (takeTurn s).seqPins = s.seqPins := rfl
@[simp] theorem takeTurn_seqState : (takeTurn s).seqState = s.seqState := rfl
@[simp] theorem takeTurn_failCode : (takeTurn s).failCode = s.failCode := rfl
@[simp] theorem takeTurn_doubleStart : (takeTurn s).doubleStart = s.doubleStart := rfl
@[simp] theorem takeTurn_mem : (takeTurn s).mem = s.mem := rfl
@[simp] theorem takeTurn_pixOut : (takeTurn s).pixOut = s.pixOut := rfl
@[simp] theorem takeTurn_faults : (takeTurn s).faults = s.faults := rfl
@[simp] theorem takeTurn_stepNo : (takeTurn s).stepNo = s.stepNo := rfl
@[simp] theorem takeTurn_sched : (takeTurn s).sched = s.sched.tail := rfl
@[simp] theorem takeTurn_hostQ : (takeTurn s).hostQ = s.hostQ := rfl
@[simp] theorem takeTurn_resp : (takeTurn s).resp = s.resp := rfl
@[simp] theorem takeTurn_ch (m : Chan) : (takeTurn s).ch m = s.ch m := by cases m <;> rfl
@[simp] theorem takeTurn_gen (k : Gen) : (takeTurn s).gen k = s.gen k := by cases k <;> rfl

/-! ### countStep -/

@[simp] theorem countStep_params : (countStep s).params = s.params := rfl
@[simp] theorem countStep_ch0 : (countStep s).ch0 = s.ch0 := rfl
@[simp] theorem countStep_ch1 : (countStep s).ch1 = s.ch1 := rfl
@[simp] theorem countStep_ch2 : (countStep s).ch2 = s.ch2 := rfl
@[simp] theorem countStep_resClaim : (countStep s).resClaim = s.resClaim := rfl
@[simp] theorem countStep_genEnable : (countStep s).genEnable = s.genEnable := rfl
@[simp] theorem countStep_genH : (countStep s).genH = s.genH := rfl
@[simp] theorem countStep_genV : (countStep s).genV = s.genV := rfl
@[simp] theorem countStep_genP : (countStep s).genP = s.genP := rfl
@[simp] theorem countStep_pixQ : (countStep s).pixQ = s.pixQ := rfl
@[simp] theorem countStep_pixTxOver : (countStep s).pixTxOver = s.pixTxOver := rfl
@[simp] theorem countStep_paramOver : (countStep s).paramOver = s.paramOver := rfl
@[simp] theorem countStep_noprogErr : (countStep s).noprogErr = s.noprogErr := rfl
@[simp] theorem countStep_imemUsed : (countStep s).imemUsed = s.imemUsed := rfl
@[simp] theorem countStep_seqFbBase : (countStep s).seqFbBase = s.seqFbBase := rfl
@[simp] theorem countStep_seqFbLen : (countStep s).seqFbLen = s.seqFbLen := rfl
@[simp] theorem countStep_seqPtrAddr : (countStep s).seqPtrAddr = s.seqPtrAddr := rfl
@[simp] theorem countStep_seqParamH : (countStep s).seqParamH = s.seqParamH := rfl
@[simp] theorem countStep_seqParamV : (countStep s).seqParamV = s.seqParamV := rfl
@[simp] theorem countStep_seqParamP : (countStep s).seqParamP = s.seqParamP := rfl
@[simp] theorem countStep_seqPins : (countStep s).seqPins = s.seqPins := rfl
@[simp] theorem countStep_seqState : (countStep s).seqState = s.seqState := rfl
@[simp] theorem countStep_failCode : (countStep s).failCode = s.failCode := rfl
@[simp] theorem countStep_doubleStart : (countStep s).doubleStart = s.doubleStart := rfl
@[simp] theorem countStep_mem : (countStep s).mem = s.mem := rfl
@[simp] theorem countStep_pixOut : (countStep s).pixOut = s.pixOut := rfl
@[simp] theorem countStep_faults : (countStep s).faults = s.faults := rfl
@[simp] theorem countStep_stepNo : (countStep s).stepNo = s.stepNo + 1 := rfl
@[simp] theorem countStep_sched : (countStep s).sched = s.sched := rfl
@[simp] theorem countStep_hostQ : (countStep s).hostQ = s.hostQ := rfl
@[simp] theorem countStep_resp : (countStep s).resp = s.resp := rfl
@[simp] theorem countStep_ch (m : Chan) : (countStep s).ch m = s.ch m := by cases m <;> rfl
@[simp] theorem countStep_gen (k : Gen) : (countStep s).gen k = s.gen k := by cases k <;> rfl

/-! ### memWrite -/

@[simp] theorem memWrite_params (a : Addr) (sz : Size) (v : Word) : (memWrite a sz v s).params = s.params := rfl
@[simp] theorem memWrite_ch0 (a : Addr) (sz : Size) (v : Word) : (memWrite a sz v s).ch0 = s.ch0 := rfl
@[simp] theorem memWrite_ch1 (a : Addr) (sz : Size) (v : Word) : (memWrite a sz v s).ch1 = s.ch1 := rfl
@[simp] theorem memWrite_ch2 (a : Addr) (sz : Size) (v : Word) : (memWrite a sz v s).ch2 = s.ch2 := rfl
@[simp] theorem memWrite_resClaim (a : Addr) (sz : Size) (v : Word) : (memWrite a sz v s).resClaim = s.resClaim := rfl
@[simp] theorem memWrite_genEnable (a : Addr) (sz : Size) (v : Word) : (memWrite a sz v s).genEnable = s.genEnable := rfl
@[simp] theorem memWrite_genH (a : Addr) (sz : Size) (v : Word) : (memWrite a sz v s).genH = s.genH := rfl
@[simp] theorem memWrite_genV (a : Addr) (sz : Size) (v : Word) : (memWrite a sz v s).genV = s.genV := rfl
@[simp] theorem memWrite_genP (a : Addr) (sz : Size) (v : Word) : (memWrite a sz v s).genP = s.genP := rfl
@[simp] theorem memWrite_pixQ (a : Addr) (sz : Size) (v : Word) : (memWrite a sz v s).pixQ = s.pixQ := rfl
@[simp] theorem memWrite_pixTxOver (a : Addr) (sz : Size) (v : Word) : (memWrite a sz v s).pixTxOver = s.pixTxOver := rfl
@[simp] theorem memWrite_paramOver (a : Addr) (sz : Size) (v : Word) : (memWrite a sz v s).paramOver = s.paramOver := rfl
@[simp] theorem memWrite_noprogErr (a : Addr) (sz : Size) (v : Word) : (memWrite a sz v s).noprogErr = s.noprogErr := rfl
@[simp] theorem memWrite_imemUsed (a : Addr) (sz : Size) (v : Word) : (memWrite a sz v s).imemUsed = s.imemUsed := rfl
@[simp] theorem memWrite_seqFbBase (a : Addr) (sz : Size) (v : Word) : (memWrite a sz v s).seqFbBase = s.seqFbBase := rfl
@[simp] theorem memWrite_seqFbLen (a : Addr) (sz : Size) (v : Word) : (memWrite a sz v s).seqFbLen = s.seqFbLen := rfl
@[simp] theorem memWrite_seqPtrAddr (a : Addr) (sz : Size) (v : Word) : (memWrite a sz v s).seqPtrAddr = s.seqPtrAddr := rfl
@[simp] theorem memWrite_seqParamH (a : Addr) (sz : Size) (v : Word) : (memWrite a sz v s).seqParamH = s.seqParamH := rfl
@[simp] theorem memWrite_seqParamV (a : Addr) (sz : Size) (v : Word) : (memWrite a sz v s).seqParamV = s.seqParamV := rfl
@[simp] theorem memWrite_seqParamP (a : Addr) (sz : Size) (v : Word) : (memWrite a sz v s).seqParamP = s.seqParamP := rfl
@[simp] theorem memWrite_seqPins (a : Addr) (sz : Size) (v : Word) : (memWrite a sz v s).seqPins = s.seqPins := rfl
@[simp] theorem memWrite_seqState (a : Addr) (sz : Size) (v : Word) : (memWrite a sz v s).seqState = s.seqState := rfl
@[simp] theorem memWrite_failCode (a : Addr) (sz : Size) (v : Word) : (memWrite a sz v s).failCode = s.failCode := rfl
@[simp] theorem memWrite_doubleStart (a : Addr) (sz : Size) (v : Word) : (memWrite a sz v s).doubleStart = s.doubleStart := rfl
@[simp] theorem memWrite_mem (a : Addr) (sz : Size) (v : Word) : (memWrite a sz v s).mem = s.mem.writeBytes a (bytesOf sz v) := rfl
@[simp] theorem memWrite_pixOut (a : Addr) (sz : Size) (v : Word) : (memWrite a sz v s).pixOut = s.pixOut := rfl
@[simp] theorem memWrite_faults (a : Addr) (sz : Size) (v : Word) : (memWrite a sz v s).faults = s.faults := rfl
@[simp] theorem memWrite_stepNo (a : Addr) (sz : Size) (v : Word) : (memWrite a sz v s).stepNo = s.stepNo := rfl
@[simp] theorem memWrite_sched (a : Addr) (sz : Size) (v : Word) : (memWrite a sz v s).sched = s.sched := rfl
@[simp] theorem memWrite_hostQ (a : Addr) (sz : Size) (v : Word) : (memWrite a sz v s).hostQ = s.hostQ := rfl
@[simp] theorem memWrite_resp (a : Addr) (sz : Size) (v : Word) : (memWrite a sz v s).resp = s.resp := rfl
@[simp] theorem memWrite_ch (a : Addr) (sz : Size) (v : Word) (m : Chan) : (memWrite a sz v s).ch m = s.ch m := by cases m <;> rfl
@[simp] theorem memWrite_gen (a : Addr) (sz : Size) (v : Word) (k : Gen) : (memWrite a sz v s).gen k = s.gen k := by cases k <;> rfl

/-! ### State.withTurns -/

@[simp] theorem State.withTurns_params (ts : List Agent) : (s.withTurns ts).params = s.params := rfl
@[simp] theorem State.withTurns_ch0 (ts : List Agent) : (s.withTurns ts).ch0 = s.ch0 := rfl
@[simp] theorem State.withTurns_ch1 (ts : List Agent) : (s.withTurns ts).ch1 = s.ch1 := rfl
@[simp] theorem State.withTurns_ch2 (ts : List Agent) : (s.withTurns ts).ch2 = s.ch2 := rfl
@[simp] theorem State.withTurns_resClaim (ts : List Agent) : (s.withTurns ts).resClaim = s.resClaim := rfl
@[simp] theorem State.withTurns_genEnable (ts : List Agent) : (s.withTurns ts).genEnable = s.genEnable := rfl
@[simp] theorem State.withTurns_genH (ts : List Agent) : (s.withTurns ts).genH = s.genH := rfl
@[simp] theorem State.withTurns_genV (ts : List Agent) : (s.withTurns ts).genV = s.genV := rfl
@[simp] theorem State.withTurns_genP (ts : List Agent) : (s.withTurns ts).genP = s.genP := rfl
@[simp] theorem State.withTurns_pixQ (ts : List Agent) : (s.withTurns ts).pixQ = s.pixQ := rfl
@[simp] theorem State.withTurns_pixTxOver (ts : List Agent) : (s.withTurns ts).pixTxOver = s.pixTxOver := rfl
@[simp] theorem State.withTurns_paramOver (ts : List Agent) : (s.withTurns ts).paramOver = s.paramOver := rfl
@[simp] theorem State.withTurns_noprogErr (ts : List Agent) : (s.withTurns ts).noprogErr = s.noprogErr := rfl
@[simp] theorem State.withTurns_imemUsed (ts : List Agent) : (s.withTurns ts).imemUsed = s.imemUsed := rfl
@[simp] theorem State.withTurns_seqFbBase (ts : List Agent) : (s.withTurns ts).seqFbBase = s.seqFbBase := rfl
@[simp] theorem State.withTurns_seqFbLen (ts : List Agent) : (s.withTurns ts).seqFbLen = s.seqFbLen := rfl
@[simp] theorem State.withTurns_seqPtrAddr (ts : List Agent) : (s.withTurns ts).seqPtrAddr = s.seqPtrAddr := rfl
@[simp] theorem State.withTurns_seqParamH (ts : List Agent) : (s.withTurns ts).seqParamH = s.seqParamH := rfl
@[simp] theorem State.withTurns_seqParamV (ts : List Agent) : (s.withTurns ts).seqParamV = s.seqParamV := rfl
@[simp] theorem State.withTurns_seqParamP (ts : List Agent) : (s.withTurns ts).seqParamP = s.seqParamP := rfl
@[simp] theorem State.withTurns_seqPins (ts : List Agent) : (s.withTurns ts).seqPins = s.seqPins := rfl
@[simp] theorem State.withTurns_seqState (ts : List Agent) : (s.withTurns ts).seqState = s.seqState := rfl
@[simp] theorem State.withTurns_failCode (ts : List Agent) : (s.withTurns ts).failCode = s.failCode := rfl
@[simp] theorem State.withTurns_doubleStart (ts : List Agent) : (s.withTurns ts).doubleStart = s.doubleStart := rfl
@[simp] theorem State.withTurns_mem (ts : List Agent) : (s.withTurns ts).mem = s.mem := rfl
@[simp] theorem State.withTurns_pixOut (ts : List Agent) : (s.withTurns ts).pixOut = s.pixOut := rfl
@[simp] theorem State.withTurns_faults (ts : List Agent) : (s.withTurns ts).faults = s.faults := rfl
@[simp] theorem State.withTurns_stepNo (ts : List Agent) : (s.withTurns ts).stepNo = s.stepNo := rfl
@[simp] theorem State.withTurns_sched (ts : List Agent) : (s.withTurns ts).sched = ts := rfl
@[simp] theorem State.withTurns_hostQ (ts : List Agent) : (s.withTurns ts).hostQ = s.hostQ := rfl
@[simp] theorem State.withTurns_resp (ts : List Agent) : (s.withTurns ts).resp = s.resp := rfl
@[simp] theorem State.withTurns_ch (ts : List Agent) (m : Chan) : (s.withTurns ts).ch m = s.ch m := by cases m <;> rfl
@[simp] theorem State.withTurns_gen (ts : List Agent) (k : Gen) : (s.withTurns ts).gen k = s.gen k := by cases k <;> rfl

/-! ### placeTransaction -/

@[simp] theorem placeTransaction_params (t : Transaction) : (placeTransaction t s).params = s.params := rfl
@[simp] theorem placeTransaction_ch0 (t : Transaction) : (placeTransaction t s).ch0 = s.ch0 := rfl
@[simp] theorem placeTransaction_ch1 (t : Transaction) : (placeTransaction t s).ch1 = s.ch1 := rfl
@[simp] theorem placeTransaction_ch2 (t : Transaction) : (placeTransaction t s).ch2 = s.ch2 := rfl
@[simp] theorem placeTransaction_resClaim (t : Transaction) : (placeTransaction t s).resClaim = s.resClaim := rfl
@[simp] theorem placeTransaction_genEnable (t : Transaction) : (placeTransaction t s).genEnable = s.genEnable := rfl
@[simp] theorem placeTransaction_genH (t : Transaction) : (placeTransaction t s).genH = s.genH := rfl
@[simp] theorem placeTransaction_genV (t : Transaction) : (placeTransaction t s).genV = s.genV := rfl
@[simp] theorem placeTransaction_genP (t : Transaction) : (placeTransaction t s).genP = s.genP := rfl
@[simp] theorem placeTransaction_pixQ (t : Transaction) : (placeTransaction t s).pixQ = s.pixQ := rfl
@[simp] theorem placeTransaction_pixTxOver (t : Transaction) : (placeTransaction t s).pixTxOver = s.pixTxOver := rfl
@[simp] theorem placeTransaction_paramOver (t : Transaction) : (placeTransaction t s).paramOver = s.paramOver := rfl
@[simp] theorem placeTransaction_noprogErr (t : Transaction) : (placeTransaction t s).noprogErr = s.noprogErr := rfl
@[simp] theorem placeTransaction_imemUsed (t : Transaction) : (placeTransaction t s).imemUsed = s.imemUsed := rfl
@[simp] theorem placeTransaction_seqFbBase (t : Transaction) : (placeTransaction t s).seqFbBase = s.seqFbBase := rfl
@[simp] theorem placeTransaction_seqFbLen (t : Transaction) : (placeTransaction t s).seqFbLen = s.seqFbLen := rfl
@[simp] theorem placeTransaction_seqPtrAddr (t : Transaction) : (placeTransaction t s).seqPtrAddr = s.seqPtrAddr := rfl
@[simp] theorem placeTransaction_seqParamH (t : Transaction) : (placeTransaction t s).seqParamH = s.seqParamH := rfl
@[simp] theorem placeTransaction_seqParamV (t : Transaction) : (placeTransaction t s).seqParamV = s.seqParamV := rfl
@[simp] theorem placeTransaction_seqParamP (t : Transaction) : (placeTransaction t s).seqParamP = s.seqParamP := rfl
@[simp] theorem placeTransaction_seqPins (t : Transaction) : (placeTransaction t s).seqPins = s.seqPins := rfl
@[simp] theorem placeTransaction_seqState (t : Transaction) : (placeTransaction t s).seqState = s.seqState := rfl
@[simp] theorem placeTransaction_failCode (t : Transaction) : (placeTransaction t s).failCode = s.failCode := rfl
@[simp] theorem placeTransaction_doubleStart (t : Transaction) : (placeTransaction t s).doubleStart = s.doubleStart := rfl
@[simp] theorem placeTransaction_mem (t : Transaction) : (placeTransaction t s).mem = s.mem := rfl
@[simp] theorem placeTransaction_pixOut (t : Transaction) : (placeTransaction t s).pixOut = s.pixOut := rfl
@[simp] theorem placeTransaction_faults (t : Transaction) : (placeTransaction t s).faults = s.faults := rfl
@[simp] theorem placeTransaction_stepNo (t : Transaction) : (placeTransaction t s).stepNo = s.stepNo := rfl
@[simp] theorem placeTransaction_sched (t : Transaction) : (placeTransaction t s).sched = .host :: s.sched := rfl
@[simp] theorem placeTransaction_hostQ (t : Transaction) : (placeTransaction t s).hostQ = .bus t :: s.hostQ := rfl
@[simp] theorem placeTransaction_resp (t : Transaction) : (placeTransaction t s).resp = s.resp := rfl
@[simp] theorem placeTransaction_ch (t : Transaction) (m : Chan) : (placeTransaction t s).ch m = s.ch m := by cases m <;> rfl
@[simp] theorem placeTransaction_gen (t : Transaction) (k : Gen) : (placeTransaction t s).gen k = s.gen k := by cases k <;> rfl

/-! ### hostFault -/

@[simp] theorem hostFault_params (k : HostFaultKind) (h : Option (BitVec 16)) : (hostFault k h s).params = s.params := rfl
@[simp] theorem hostFault_ch0 (k : HostFaultKind) (h : Option (BitVec 16)) : (hostFault k h s).ch0 = s.ch0 := rfl
@[simp] theorem hostFault_ch1 (k : HostFaultKind) (h : Option (BitVec 16)) : (hostFault k h s).ch1 = s.ch1 := rfl
@[simp] theorem hostFault_ch2 (k : HostFaultKind) (h : Option (BitVec 16)) : (hostFault k h s).ch2 = s.ch2 := rfl
@[simp] theorem hostFault_resClaim (k : HostFaultKind) (h : Option (BitVec 16)) : (hostFault k h s).resClaim = s.resClaim := rfl
@[simp] theorem hostFault_genEnable (k : HostFaultKind) (h : Option (BitVec 16)) : (hostFault k h s).genEnable = s.genEnable := rfl
@[simp] theorem hostFault_genH (k : HostFaultKind) (h : Option (BitVec 16)) : (hostFault k h s).genH = s.genH := rfl
@[simp] theorem hostFault_genV (k : HostFaultKind) (h : Option (BitVec 16)) : (hostFault k h s).genV = s.genV := rfl
@[simp] theorem hostFault_genP (k : HostFaultKind) (h : Option (BitVec 16)) : (hostFault k h s).genP = s.genP := rfl
@[simp] theorem hostFault_pixQ (k : HostFaultKind) (h : Option (BitVec 16)) : (hostFault k h s).pixQ = s.pixQ := rfl
@[simp] theorem hostFault_pixTxOver (k : HostFaultKind) (h : Option (BitVec 16)) : (hostFault k h s).pixTxOver = s.pixTxOver := rfl
@[simp] theorem hostFault_paramOver (k : HostFaultKind) (h : Option (BitVec 16)) : (hostFault k h s).paramOver = s.paramOver := rfl
@[simp] theorem hostFault_noprogErr (k : HostFaultKind) (h : Option (BitVec 16)) : (hostFault k h s).noprogErr = s.noprogErr := rfl
@[simp] theorem hostFault_imemUsed (k : HostFaultKind) (h : Option (BitVec 16)) : (hostFault k h s).imemUsed = s.imemUsed := rfl
@[simp] theorem hostFault_seqFbBase (k : HostFaultKind) (h : Option (BitVec 16)) : (hostFault k h s).seqFbBase = s.seqFbBase := rfl
@[simp] theorem hostFault_seqFbLen (k : HostFaultKind) (h : Option (BitVec 16)) : (hostFault k h s).seqFbLen = s.seqFbLen := rfl
@[simp] theorem hostFault_seqPtrAddr (k : HostFaultKind) (h : Option (BitVec 16)) : (hostFault k h s).seqPtrAddr = s.seqPtrAddr := rfl
@[simp] theorem hostFault_seqParamH (k : HostFaultKind) (h : Option (BitVec 16)) : (hostFault k h s).seqParamH = s.seqParamH := rfl
@[simp] theorem hostFault_seqParamV (k : HostFaultKind) (h : Option (BitVec 16)) : (hostFault k h s).seqParamV = s.seqParamV := rfl
@[simp] theorem hostFault_seqParamP (k : HostFaultKind) (h : Option (BitVec 16)) : (hostFault k h s).seqParamP = s.seqParamP := rfl
@[simp] theorem hostFault_seqPins (k : HostFaultKind) (h : Option (BitVec 16)) : (hostFault k h s).seqPins = s.seqPins := rfl
@[simp] theorem hostFault_seqState (k : HostFaultKind) (h : Option (BitVec 16)) : (hostFault k h s).seqState = s.seqState := rfl
@[simp] theorem hostFault_failCode (k : HostFaultKind) (h : Option (BitVec 16)) : (hostFault k h s).failCode = s.failCode := rfl
@[simp] theorem hostFault_doubleStart (k : HostFaultKind) (h : Option (BitVec 16)) : (hostFault k h s).doubleStart = s.doubleStart := rfl
@[simp] theorem hostFault_mem (k : HostFaultKind) (h : Option (BitVec 16)) : (hostFault k h s).mem = s.mem := rfl
@[simp] theorem hostFault_pixOut (k : HostFaultKind) (h : Option (BitVec 16)) : (hostFault k h s).pixOut = s.pixOut := rfl
@[simp] theorem hostFault_faults (k : HostFaultKind) (h : Option (BitVec 16)) : (hostFault k h s).faults = s.faults ++ [.hostFault k h] := rfl
@[simp] theorem hostFault_stepNo (k : HostFaultKind) (h : Option (BitVec 16)) : (hostFault k h s).stepNo = s.stepNo := rfl
@[simp] theorem hostFault_sched (k : HostFaultKind) (h : Option (BitVec 16)) : (hostFault k h s).sched = s.sched := rfl
@[simp] theorem hostFault_hostQ (k : HostFaultKind) (h : Option (BitVec 16)) : (hostFault k h s).hostQ = s.hostQ := rfl
@[simp] theorem hostFault_resp (k : HostFaultKind) (h : Option (BitVec 16)) : (hostFault k h s).resp = .hostFault k := rfl
@[simp] theorem hostFault_ch (k : HostFaultKind) (h : Option (BitVec 16)) (m : Chan) : (hostFault k h s).ch m = s.ch m := by cases m <;> rfl
@[simp] theorem hostFault_gen (k : HostFaultKind) (h : Option (BitVec 16)) (g : Gen) :
    (hostFault k h s).gen g = s.gen g := by cases g <;> rfl

/-! ### A channel or generator after an update of it -/

@[simp] theorem State.setCh_ch_same (n : Chan) (c : Channel) : (s.setCh n c).ch n = c := by cases n <;> rfl

theorem State.setCh_ch_of_ne {n m : Chan} (c : Channel) (h : m ≠ n) : (s.setCh n c).ch m = s.ch m := by
  cases n <;> cases m <;> first | rfl | exact absurd rfl h

theorem State.setCh_ch (n m : Chan) (c : Channel) : (s.setCh n c).ch m = if m = n then c else s.ch m := by
  cases n <;> cases m <;> rfl

@[simp] theorem State.setCh_self (n : Chan) : s.setCh n (s.ch n) = s := by cases n <;> rfl

@[simp] theorem State.setCh_setCh (n : Chan) (c d : Channel) : (s.setCh n c).setCh n d = s.setCh n d := by
  cases n <;> rfl

@[simp] theorem State.setGen_gen_same (g : Gen) (x : Generator) : (s.setGen g x).gen g = x := by cases g <;> rfl

theorem State.setGen_gen (g k : Gen) (x : Generator) : (s.setGen g x).gen k = if k = g then x else s.gen k := by
  cases g <;> cases k <;> rfl

@[simp] theorem State.modCtrl_ch_same (n : Chan) (f : Word → Word) :
    (s.modCtrl n f).ch n = { s.ch n with ctrl := f (s.ch n).ctrl } := by cases n <;> rfl

theorem State.modCtrl_ch (n m : Chan) (f : Word → Word) :
    (s.modCtrl n f).ch m = if m = n then { s.ch n with ctrl := f (s.ch n).ctrl } else s.ch m := by
  cases n <;> cases m <;> rfl

@[simp] theorem State.ch_ch0 : s.ch .ch0 = s.ch0 := rfl
@[simp] theorem State.ch_ch1 : s.ch .ch1 = s.ch1 := rfl
@[simp] theorem State.ch_ch2 : s.ch .ch2 = s.ch2 := rfl
@[simp] theorem State.gen_h : s.gen .h = s.genH := rfl
@[simp] theorem State.gen_v : s.gen .v = s.genV := rfl
@[simp] theorem State.gen_p : s.gen .p = s.genP := rfl

end Sys2Proof.Machine
end

