-- ==== Sys2Proof/Laws/Flags.lean ====
section
/-! SUPPORT. The fields of CTRL after each update of it (10_state.md R36), and CTRL after a write (40_channel_registers.md R156). -/

namespace Sys2Proof.Machine

/-- Bit `j` of a word after bit `i` is put. -/
theorem getLsbD_putBit (i j : Nat) (b : Bool) (w : Word) :
    (putBit i b w).getLsbD j = if j = i ∧ i < 32 then b else w.getLsbD j := by
  by_cases hj : j < 32
  · by_cases hij : j = i
    · subst hij
      cases b <;> simp [putBit, hj]
    · have hlt : ¬ (j = i ∧ i < 32) := fun h => hij h.1
      rw [if_neg hlt]
      have hbit : (1#32 <<< i).getLsbD j = false := by
        simp only [BitVec.getLsbD_shiftLeft, hj, decide_true, Bool.true_and, BitVec.getLsbD_one]
        simp; omega
      cases b <;> simp only [putBit, Bool.false_eq_true, if_false, if_true, BitVec.getLsbD_or, BitVec.getLsbD_and,
        BitVec.getLsbD_not, hbit, hj, decide_true, Bool.not_false, Bool.and_true, Bool.or_false]
  · rw [BitVec.getLsbD_of_ge _ _ (by omega), BitVec.getLsbD_of_ge _ _ (by omega), if_neg (by omega)]

theorem dataSize_putBit {i : Nat} (b : Bool) (c : Word) (h : i ≠ 2 ∧ i ≠ 3) :
    Ctrl.dataSize (putBit i b c) = Ctrl.dataSize c := by
  unfold Ctrl.dataSize
  apply BitVec.eq_of_getLsbD_eq
  intro k hk
  simp only [BitVec.getLsbD_extractLsb', getLsbD_putBit]
  rw [if_neg (by omega)]

theorem chainTo_putBit {i : Nat} (b : Bool) (c : Word) (h : i ≠ 8 ∧ i ≠ 9 ∧ i ≠ 10) :
    Ctrl.chainTo (putBit i b c) = Ctrl.chainTo c := by
  unfold Ctrl.chainTo
  apply BitVec.eq_of_getLsbD_eq
  intro k hk
  simp only [BitVec.getLsbD_extractLsb', getLsbD_putBit]
  rw [if_neg (by omega)]

theorem treqSel_putBit {i : Nat} (b : Bool) (c : Word) (h : i ≠ 12 ∧ i ≠ 13) :
    Ctrl.treqSel (putBit i b c) = Ctrl.treqSel c := by
  unfold Ctrl.treqSel
  apply BitVec.eq_of_getLsbD_eq
  intro k hk
  simp only [BitVec.getLsbD_extractLsb', getLsbD_putBit]
  rw [if_neg (by omega)]

/-! ### Ctrl.putEn -/

@[simp] theorem en_putEn (b : Bool) (c : Word) : Ctrl.en (Ctrl.putEn b c) = b :=
  (getLsbD_putBit 0 0 b c).trans (if_pos (by decide))
@[simp] theorem incrRead_putEn (b : Bool) (c : Word) : Ctrl.incrRead (Ctrl.putEn b c) = Ctrl.incrRead c :=
  (getLsbD_putBit 0 4 b c).trans (if_neg (by decide))
@[simp] theorem incrWrite_putEn (b : Bool) (c : Word) : Ctrl.incrWrite (Ctrl.putEn b c) = Ctrl.incrWrite c :=
  (getLsbD_putBit 0 5 b c).trans (if_neg (by decide))
@[simp] theorem busy_putEn (b : Bool) (c : Word) : Ctrl.busy (Ctrl.putEn b c) = Ctrl.busy c :=
  (getLsbD_putBit 0 24 b c).trans (if_neg (by decide))
@[simp] theorem cfgErr_putEn (b : Bool) (c : Word) : Ctrl.cfgErr (Ctrl.putEn b c) = Ctrl.cfgErr c :=
  (getLsbD_putBit 0 29 b c).trans (if_neg (by decide))
@[simp] theorem readErr_putEn (b : Bool) (c : Word) : Ctrl.readErr (Ctrl.putEn b c) = Ctrl.readErr c :=
  (getLsbD_putBit 0 30 b c).trans (if_neg (by decide))
@[simp] theorem writeErr_putEn (b : Bool) (c : Word) : Ctrl.writeErr (Ctrl.putEn b c) = Ctrl.writeErr c :=
  (getLsbD_putBit 0 31 b c).trans (if_neg (by decide))
@[simp] theorem dataSize_putEn (b : Bool) (c : Word) : Ctrl.dataSize (Ctrl.putEn b c) = Ctrl.dataSize c :=
  dataSize_putBit _ c (by decide)
@[simp] theorem chainTo_putEn (b : Bool) (c : Word) : Ctrl.chainTo (Ctrl.putEn b c) = Ctrl.chainTo c :=
  chainTo_putBit _ c (by decide)
@[simp] theorem treqSel_putEn (b : Bool) (c : Word) : Ctrl.treqSel (Ctrl.putEn b c) = Ctrl.treqSel c :=
  treqSel_putBit _ c (by decide)
@[simp] theorem size_putEn (b : Bool) (c : Word) : Ctrl.size? (Ctrl.putEn b c) = Ctrl.size? c := by
  simp [Ctrl.size?]
@[simp] theorem chain_putEn (b : Bool) (c : Word) : Ctrl.chain? (Ctrl.putEn b c) = Ctrl.chain? c := by
  simp [Ctrl.chain?]
@[simp] theorem configLegal_putEn (b : Bool) (c : Word) : Ctrl.configLegal (Ctrl.putEn b c) = Ctrl.configLegal c := by
  simp [Ctrl.configLegal]
@[simp] theorem err_putEn (b : Bool) (c : Word) : Ctrl.err (Ctrl.putEn b c) = Ctrl.err c := by
  simp [Ctrl.err]

/-! ### Ctrl.putBusy -/

@[simp] theorem en_putBusy (b : Bool) (c : Word) : Ctrl.en (Ctrl.putBusy b c) = Ctrl.en c :=
  (getLsbD_putBit 24 0 b c).trans (if_neg (by decide))
@[simp] theorem incrRead_putBusy (b : Bool) (c : Word) : Ctrl.incrRead (Ctrl.putBusy b c) = Ctrl.incrRead c :=
  (getLsbD_putBit 24 4 b c).trans (if_neg (by decide))
@[simp] theorem incrWrite_putBusy (b : Bool) (c : Word) : Ctrl.incrWrite (Ctrl.putBusy b c) = Ctrl.incrWrite c :=
  (getLsbD_putBit 24 5 b c).trans (if_neg (by decide))
@[simp] theorem busy_putBusy (b : Bool) (c : Word) : Ctrl.busy (Ctrl.putBusy b c) = b :=
  (getLsbD_putBit 24 24 b c).trans (if_pos (by decide))
@[simp] theorem cfgErr_putBusy (b : Bool) (c : Word) : Ctrl.cfgErr (Ctrl.putBusy b c) = Ctrl.cfgErr c :=
  (getLsbD_putBit 24 29 b c).trans (if_neg (by decide))
@[simp] theorem readErr_putBusy (b : Bool) (c : Word) : Ctrl.readErr (Ctrl.putBusy b c) = Ctrl.readErr c :=
  (getLsbD_putBit 24 30 b c).trans (if_neg (by decide))
@[simp] theorem writeErr_putBusy (b : Bool) (c : Word) : Ctrl.writeErr (Ctrl.putBusy b c) = Ctrl.writeErr c :=
  (getLsbD_putBit 24 31 b c).trans (if_neg (by decide))
@[simp] theorem dataSize_putBusy (b : Bool) (c : Word) : Ctrl.dataSize (Ctrl.putBusy b c) = Ctrl.dataSize c :=
  dataSize_putBit _ c (by decide)
@[simp] theorem chainTo_putBusy (b : Bool) (c : Word) : Ctrl.chainTo (Ctrl.putBusy b c) = Ctrl.chainTo c :=
  chainTo_putBit _ c (by decide)
@[simp] theorem treqSel_putBusy (b : Bool) (c : Word) : Ctrl.treqSel (Ctrl.putBusy b c) = Ctrl.treqSel c :=
  treqSel_putBit _ c (by decide)
@[simp] theorem size_putBusy (b : Bool) (c : Word) : Ctrl.size? (Ctrl.putBusy b c) = Ctrl.size? c := by
  simp [Ctrl.size?]
@[simp] theorem chain_putBusy (b : Bool) (c : Word) : Ctrl.chain? (Ctrl.putBusy b c) = Ctrl.chain? c := by
  simp [Ctrl.chain?]
@[simp] theorem configLegal_putBusy (b : Bool) (c : Word) : Ctrl.configLegal (Ctrl.putBusy b c) = Ctrl.configLegal c := by
  simp [Ctrl.configLegal]
@[simp] theorem err_putBusy (b : Bool) (c : Word) : Ctrl.err (Ctrl.putBusy b c) = Ctrl.err c := by
  simp [Ctrl.err]

/-! ### Ctrl.setCfgErr -/

@[simp] theorem en_setCfgErr (c : Word) : Ctrl.en (Ctrl.setCfgErr c) = Ctrl.en c :=
  (getLsbD_putBit 29 0 true c).trans (if_neg (by decide))
@[simp] theorem incrRead_setCfgErr (c : Word) : Ctrl.incrRead (Ctrl.setCfgErr c) = Ctrl.incrRead c :=
  (getLsbD_putBit 29 4 true c).trans (if_neg (by decide))
@[simp] theorem incrWrite_setCfgErr (c : Word) : Ctrl.incrWrite (Ctrl.setCfgErr c) = Ctrl.incrWrite c :=
  (getLsbD_putBit 29 5 true c).trans (if_neg (by decide))
@[simp] theorem busy_setCfgErr (c : Word) : Ctrl.busy (Ctrl.setCfgErr c) = Ctrl.busy c :=
  (getLsbD_putBit 29 24 true c).trans (if_neg (by decide))
@[simp] theorem cfgErr_setCfgErr (c : Word) : Ctrl.cfgErr (Ctrl.setCfgErr c) = true :=
  (getLsbD_putBit 29 29 true c).trans (if_pos (by decide))
@[simp] theorem readErr_setCfgErr (c : Word) : Ctrl.readErr (Ctrl.setCfgErr c) = Ctrl.readErr c :=
  (getLsbD_putBit 29 30 true c).trans (if_neg (by decide))
@[simp] theorem writeErr_setCfgErr (c : Word) : Ctrl.writeErr (Ctrl.setCfgErr c) = Ctrl.writeErr c :=
  (getLsbD_putBit 29 31 true c).trans (if_neg (by decide))
@[simp] theorem dataSize_setCfgErr (c : Word) : Ctrl.dataSize (Ctrl.setCfgErr c) = Ctrl.dataSize c :=
  dataSize_putBit _ c (by decide)
@[simp] theorem chainTo_setCfgErr (c : Word) : Ctrl.chainTo (Ctrl.setCfgErr c) = Ctrl.chainTo c :=
  chainTo_putBit _ c (by decide)
@[simp] theorem treqSel_setCfgErr (c : Word) : Ctrl.treqSel (Ctrl.setCfgErr c) = Ctrl.treqSel c :=
  treqSel_putBit _ c (by decide)
@[simp] theorem size_setCfgErr (c : Word) : Ctrl.size? (Ctrl.setCfgErr c) = Ctrl.size? c := by
  simp [Ctrl.size?]
@[simp] theorem chain_setCfgErr (c : Word) : Ctrl.chain? (Ctrl.setCfgErr c) = Ctrl.chain? c := by
  simp [Ctrl.chain?]
@[simp] theorem configLegal_setCfgErr (c : Word) : Ctrl.configLegal (Ctrl.setCfgErr c) = Ctrl.configLegal c := by
  simp [Ctrl.configLegal]
@[simp] theorem err_setCfgErr (c : Word) : Ctrl.err (Ctrl.setCfgErr c) = true := by
  simp [Ctrl.err]

/-! ### Ctrl.setReadErr -/

@[simp] theorem en_setReadErr (c : Word) : Ctrl.en (Ctrl.setReadErr c) = Ctrl.en c :=
  (getLsbD_putBit 30 0 true c).trans (if_neg (by decide))
@[simp] theorem incrRead_setReadErr (c : Word) : Ctrl.incrRead (Ctrl.setReadErr c) = Ctrl.incrRead c :=
  (getLsbD_putBit 30 4 true c).trans (if_neg (by decide))
@[simp] theorem incrWrite_setReadErr (c : Word) : Ctrl.incrWrite (Ctrl.setReadErr c) = Ctrl.incrWrite c :=
  (getLsbD_putBit 30 5 true c).trans (if_neg (by decide))
@[simp] theorem busy_setReadErr (c : Word) : Ctrl.busy (Ctrl.setReadErr c) = Ctrl.busy c :=
  (getLsbD_putBit 30 24 true c).trans (if_neg (by decide))
@[simp] theorem cfgErr_setReadErr (c : Word) : Ctrl.cfgErr (Ctrl.setReadErr c) = Ctrl.cfgErr c :=
  (getLsbD_putBit 30 29 true c).trans (if_neg (by decide))
@[simp] theorem readErr_setReadErr (c : Word) : Ctrl.readErr (Ctrl.setReadErr c) = true :=
  (getLsbD_putBit 30 30 true c).trans (if_pos (by decide))
@[simp] theorem writeErr_setReadErr (c : Word) : Ctrl.writeErr (Ctrl.setReadErr c) = Ctrl.writeErr c :=
  (getLsbD_putBit 30 31 true c).trans (if_neg (by decide))
@[simp] theorem dataSize_setReadErr (c : Word) : Ctrl.dataSize (Ctrl.setReadErr c) = Ctrl.dataSize c :=
  dataSize_putBit _ c (by decide)
@[simp] theorem chainTo_setReadErr (c : Word) : Ctrl.chainTo (Ctrl.setReadErr c) = Ctrl.chainTo c :=
  chainTo_putBit _ c (by decide)
@[simp] theorem treqSel_setReadErr (c : Word) : Ctrl.treqSel (Ctrl.setReadErr c) = Ctrl.treqSel c :=
  treqSel_putBit _ c (by decide)
@[simp] theorem size_setReadErr (c : Word) : Ctrl.size? (Ctrl.setReadErr c) = Ctrl.size? c := by
  simp [Ctrl.size?]
@[simp] theorem chain_setReadErr (c : Word) : Ctrl.chain? (Ctrl.setReadErr c) = Ctrl.chain? c := by
  simp [Ctrl.chain?]
@[simp] theorem configLegal_setReadErr (c : Word) : Ctrl.configLegal (Ctrl.setReadErr c) = Ctrl.configLegal c := by
  simp [Ctrl.configLegal]
@[simp] theorem err_setReadErr (c : Word) : Ctrl.err (Ctrl.setReadErr c) = true := by
  simp [Ctrl.err]

/-! ### Ctrl.setWriteErr -/

@[simp] theorem en_setWriteErr (c : Word) : Ctrl.en (Ctrl.setWriteErr c) = Ctrl.en c :=
  (getLsbD_putBit 31 0 true c).trans (if_neg (by decide))
@[simp] theorem incrRead_setWriteErr (c : Word) : Ctrl.incrRead (Ctrl.setWriteErr c) = Ctrl.incrRead c :=
  (getLsbD_putBit 31 4 true c).trans (if_neg (by decide))
@[simp] theorem incrWrite_setWriteErr (c : Word) : Ctrl.incrWrite (Ctrl.setWriteErr c) = Ctrl.incrWrite c :=
  (getLsbD_putBit 31 5 true c).trans (if_neg (by decide))
@[simp] theorem busy_setWriteErr (c : Word) : Ctrl.busy (Ctrl.setWriteErr c) = Ctrl.busy c :=
  (getLsbD_putBit 31 24 true c).trans (if_neg (by decide))
@[simp] theorem cfgErr_setWriteErr (c : Word) : Ctrl.cfgErr (Ctrl.setWriteErr c) = Ctrl.cfgErr c :=
  (getLsbD_putBit 31 29 true c).trans (if_neg (by decide))
@[simp] theorem readErr_setWriteErr (c : Word) : Ctrl.readErr (Ctrl.setWriteErr c) = Ctrl.readErr c :=
  (getLsbD_putBit 31 30 true c).trans (if_neg (by decide))
@[simp] theorem writeErr_setWriteErr (c : Word) : Ctrl.writeErr (Ctrl.setWriteErr c) = true :=
  (getLsbD_putBit 31 31 true c).trans (if_pos (by decide))
@[simp] theorem dataSize_setWriteErr (c : Word) : Ctrl.dataSize (Ctrl.setWriteErr c) = Ctrl.dataSize c :=
  dataSize_putBit _ c (by decide)
@[simp] theorem chainTo_setWriteErr (c : Word) : Ctrl.chainTo (Ctrl.setWriteErr c) = Ctrl.chainTo c :=
  chainTo_putBit _ c (by decide)
@[simp] theorem treqSel_setWriteErr (c : Word) : Ctrl.treqSel (Ctrl.setWriteErr c) = Ctrl.treqSel c :=
  treqSel_putBit _ c (by decide)
@[simp] theorem size_setWriteErr (c : Word) : Ctrl.size? (Ctrl.setWriteErr c) = Ctrl.size? c := by
  simp [Ctrl.size?]
@[simp] theorem chain_setWriteErr (c : Word) : Ctrl.chain? (Ctrl.setWriteErr c) = Ctrl.chain? c := by
  simp [Ctrl.chain?]
@[simp] theorem configLegal_setWriteErr (c : Word) : Ctrl.configLegal (Ctrl.setWriteErr c) = Ctrl.configLegal c := by
  simp [Ctrl.configLegal]
@[simp] theorem err_setWriteErr (c : Word) : Ctrl.err (Ctrl.setWriteErr c) = true := by
  simp [Ctrl.err]

/-! ### Writes of CTRL -/

/-- A write to a busy channel's CTRL changes EN only (40_channel_registers.md R156). -/
theorem written_of_busy {c : Word} (v : Word) (h : Ctrl.busy c = true) :
    Ctrl.written c v = Ctrl.putEn (v.getLsbD 0) c := by simp [Ctrl.written, h]

/-- A write to an idle channel's CTRL takes the writable bits from the value (40_channel_registers.md R156). -/
theorem written_of_idle {c : Word} (v : Word) (h : Ctrl.busy c = false) :
    Ctrl.written c v = (c &&& ~~~Ctrl.writeMask) ||| (v &&& Ctrl.writeMask) := by simp [Ctrl.written, h]

/-- Bit `j` of an idle channel's CTRL after a write. -/
theorem getLsbD_written_of_idle {c : Word} (v : Word) (h : Ctrl.busy c = false) (j : Nat) :
    (Ctrl.written c v).getLsbD j =
      if Ctrl.writeMask.getLsbD j then v.getLsbD j else c.getLsbD j := by
  rw [written_of_idle v h]
  by_cases hj : j < 32
  · simp only [BitVec.getLsbD_or, BitVec.getLsbD_and, BitVec.getLsbD_not, hj, decide_true, Bool.true_and]
    cases Ctrl.writeMask.getLsbD j <;> simp
  · have hm : Ctrl.writeMask.getLsbD j = false := BitVec.getLsbD_of_ge _ _ (by omega)
    simp [hm, BitVec.getLsbD_of_ge c j (by omega)]

@[simp] theorem busy_written (c v : Word) : Ctrl.busy (Ctrl.written c v) = Ctrl.busy c := by
  cases h : Ctrl.busy c
  · exact ((getLsbD_written_of_idle v h 24).trans (if_neg (by decide))).trans h
  · simp [written_of_busy v h, h]

@[simp] theorem cfgErr_written (c v : Word) : Ctrl.cfgErr (Ctrl.written c v) = Ctrl.cfgErr c := by
  cases h : Ctrl.busy c
  · exact (getLsbD_written_of_idle v h 29).trans (by simp [Ctrl.writeMask, Ctrl.cfgErr])
  · simp [written_of_busy v h]

@[simp] theorem readErr_written (c v : Word) : Ctrl.readErr (Ctrl.written c v) = Ctrl.readErr c := by
  cases h : Ctrl.busy c
  · exact (getLsbD_written_of_idle v h 30).trans (by simp [Ctrl.writeMask, Ctrl.readErr])
  · simp [written_of_busy v h]

@[simp] theorem writeErr_written (c v : Word) : Ctrl.writeErr (Ctrl.written c v) = Ctrl.writeErr c := by
  cases h : Ctrl.busy c
  · exact (getLsbD_written_of_idle v h 31).trans (by simp [Ctrl.writeMask, Ctrl.writeErr])
  · simp [written_of_busy v h]

@[simp] theorem err_written (c v : Word) : Ctrl.err (Ctrl.written c v) = Ctrl.err c := by simp [Ctrl.err]

/-- A write to a busy channel's CTRL keeps its configuration (40_channel_registers.md R156). -/
theorem configLegal_written_of_busy {c : Word} (v : Word) (h : Ctrl.busy c = true) :
    Ctrl.configLegal (Ctrl.written c v) = Ctrl.configLegal c := by simp [written_of_busy v h]

/-- A word is what it was when its bit is put to the value it had. -/
theorem putBit_self (i : Nat) (w : Word) : putBit i (w.getLsbD i) w = w := by
  apply BitVec.eq_of_getLsbD_eq
  intro j hj
  rw [getLsbD_putBit]
  by_cases h : j = i
  · subst h; simp
  · simp [h]

@[simp] theorem putBusy_putBusy (a b : Bool) (c : Word) : Ctrl.putBusy a (Ctrl.putBusy b c) = Ctrl.putBusy a c := by
  apply BitVec.eq_of_getLsbD_eq
  intro j hj
  simp only [Ctrl.putBusy, getLsbD_putBit]
  split <;> rfl

end Sys2Proof.Machine
end

