-- ==== Sys2Proof/Laws/Memory.lean ====
section
/-! SUPPORT. What a memory read sees after a write, and that every memory operation keeps the canonical form
(20_memory.md R92; 10_state.md R62). -/

namespace Sys2Proof.Machine

/-! ### One byte -/

@[simp] theorem Memory.read_write_same (m : Memory) (a : Nat) (b : Byte) : (m.write a b).read? a = some b := by
  induction m with
  | nil => simp [Memory.write, Memory.read?]
  | cons c cs ih =>
    unfold Memory.write
    split
    · simp [Memory.read?]
    · split
      · simp [Memory.read?]
      · rename_i h1 h2
        have hne : ¬ c.1 = a := fun h => h2 h.symm
        simp [Memory.read?, hne, ih]

theorem Memory.read_write_of_ne (m : Memory) {a x : Nat} (b : Byte) (h : x ≠ a) : (m.write a b).read? x = m.read? x := by
  induction m with
  | nil => simp [Memory.write, Memory.read?, Ne.symm h]
  | cons c cs ih =>
    unfold Memory.write
    split
    · simp [Memory.read?, Ne.symm h]
    · split
      · rename_i h1 h2
        subst h2
        simp [Memory.read?, Ne.symm h]
      · simp only [Memory.read?, ih]

/-- Writing keeps the addresses rising from a bound at most the address written. -/
theorem cellsRise_write {lo a : Nat} (m : Memory) (b : Byte) (h : cellsRise lo m = true) (hlo : lo ≤ a)
    (ha : a < 2 ^ 32) : cellsRise lo (m.write a b) = true := by
  induction m generalizing lo with
  | nil => simp [Memory.write, cellsRise, hlo]; omega
  | cons c cs ih =>
    simp only [cellsRise, Bool.and_eq_true, decide_eq_true_eq] at h
    obtain ⟨⟨h1, h2⟩, h3⟩ := h
    unfold Memory.write
    split
    · simp [cellsRise, hlo, h3]; omega
    · split
      · rename_i _ h5; subst h5; simp [cellsRise, hlo, h3]; omega
      · simp only [cellsRise, Bool.and_eq_true, decide_eq_true_eq]
        exact ⟨⟨h1, h2⟩, ih h3 (by omega)⟩

theorem Memory.write_wf {m : Memory} {a : Nat} (b : Byte) (h : m.wf = true) (ha : a < 2 ^ 32) :
    (m.write a b).wf = true := cellsRise_write m b h (Nat.zero_le a) ha

/-- The cells of memory after a write are old cells or the new one. -/
theorem Memory.mem_write {m : Memory} {a : Nat} {b : Byte} {c : Host.Cell} (h : c ∈ m.write a b) :
    c ∈ m ∨ c = (a, b) := by
  induction m with
  | nil => simpa [Memory.write] using h
  | cons d ds ih =>
    unfold Memory.write at h
    split at h
    · simp only [List.mem_cons] at h ⊢; tauto
    · split at h
      · simp only [List.mem_cons] at h ⊢; tauto
      · simp only [List.mem_cons] at h ⊢
        rcases h with h | h
        · tauto
        · rcases ih h with h | h <;> tauto

/-! ### Several bytes -/

theorem Memory.writeBytes_wf {m : Memory} (a : Addr) (bs : List Byte) (h : m.wf = true) :
    (m.writeBytes a bs).wf = true := by
  induction bs generalizing m a with
  | nil => exact h
  | cons b bs ih => exact ih _ (Memory.write_wf b h a.isLt)

/-- Every memory operation of the machine keeps the canonical form. -/
theorem memWrite_wf {s : State} (a : Addr) (sz : Size) (v : Word) (h : s.mem.wf = true) :
    (memWrite a sz v s).mem.wf = true := Memory.writeBytes_wf a _ h

/-- Memory after power-on is in canonical form. -/
theorem powerOn_mem_wf (p : Params) : (State.powerOn p).mem.wf = true := rfl

theorem reset_mem_wf : State.reset.mem.wf = true := rfl

theorem addrAt_zero (a : Addr) : addrAt a 0 = a := by simp [addrAt]

theorem addrAt_addrAt (a : Addr) (i j : Nat) : addrAt (addrAt a i) j = addrAt a (i + j) := by
  simp [addrAt, BitVec.ofNat_add, BitVec.add_assoc]

/-- A byte outside the bytes written reads as before. -/
theorem Memory.read_writeBytes_of_ne (m : Memory) (a : Addr) (bs : List Byte) (x : Nat)
    (h : ∀ i, i < bs.length → x ≠ (addrAt a i).toNat) : (m.writeBytes a bs).read? x = m.read? x := by
  induction bs generalizing m a with
  | nil => rfl
  | cons b bs ih =>
    have hx : x ≠ a.toNat := by simpa [addrAt_zero] using h 0 (by simp)
    have ht : ∀ i, i < bs.length → x ≠ (addrAt (addrAt a 1) i).toNat := fun i hi => by
      have := h (i + 1) (by simpa using hi)
      rwa [addrAt_addrAt, Nat.add_comm]
    exact (ih (m.write a.toNat b) (addrAt a 1) ht).trans (Memory.read_write_of_ne m b hx)

theorem bytesOf_length (sz : Size) (v : Word) : (bytesOf sz v).length = sz.bytes := by cases sz <;> rfl

/-- A byte outside the bytes stored reads as before. -/
theorem memWrite_read_of_ne (a : Addr) (sz : Size) (v : Word) (s : State) (x : Nat)
    (h : ∀ i, i < sz.bytes → x ≠ (addrAt a i).toNat) : (memWrite a sz v s).mem.read? x = s.mem.read? x :=
  Memory.read_writeBytes_of_ne _ _ _ _ (by rwa [bytesOf_length])

/-- Distinct offsets below 2^32 give distinct addresses. -/
theorem addrAt_inj {a : Addr} {i j : Nat} (hi : i < 2 ^ 32) (hj : j < 2 ^ 32)
    (h : (addrAt a i).toNat = (addrAt a j).toNat) : i = j := by
  have h1 := BitVec.eq_of_toNat_eq h
  simp only [addrAt, BitVec.add_right_inj] at h1
  have h2 := congrArg BitVec.toNat h1
  rwa [BitVec.toNat_ofNat, BitVec.toNat_ofNat, Nat.mod_eq_of_lt hi, Nat.mod_eq_of_lt hj] at h2

/-- The byte written at an offset of the store reads back. -/
theorem Memory.read_writeBytes (m : Memory) (a : Addr) (bs : List Byte) (i : Nat) (hi : i < bs.length)
    (hlen : bs.length ≤ 2 ^ 32) : (m.writeBytes a bs).read? (addrAt a i).toNat = some bs[i] := by
  induction bs generalizing m a i with
  | nil => simp at hi
  | cons b bs ih =>
    cases i with
    | zero =>
      rw [addrAt_zero]
      have hne : ∀ k, k < bs.length → a.toNat ≠ (addrAt (addrAt a 1) k).toNat := fun k hk h => by
        rw [addrAt_addrAt] at h
        have hkl : 1 + k < 2 ^ 32 := by simp only [List.length_cons] at hlen; omega
        have h0 : (addrAt a 0).toNat = (addrAt a (1 + k)).toNat := by rw [addrAt_zero]; exact h
        have := addrAt_inj (by omega) hkl h0
        omega
      exact (Memory.read_writeBytes_of_ne _ _ bs _ hne).trans (by simp)
    | succ k =>
      have hk : k < bs.length := by simpa using hi
      have := ih (m.write a.toNat b) (addrAt a 1) k hk (by simp only [List.length_cons] at hlen; omega)
      rw [addrAt_addrAt, Nat.add_comm] at this
      exact this

/-- The bytes of a store read back (20_memory.md R92). -/
theorem memWrite_read (a : Addr) (sz : Size) (v : Word) (s : State) (i : Nat) (hi : i < (bytesOf sz v).length) :
    (memWrite a sz v s).mem.read? (addrAt a i).toNat = some (bytesOf sz v)[i] :=
  Memory.read_writeBytes _ _ _ _ hi (by rw [bytesOf_length]; cases sz <;> decide)

end Sys2Proof.Machine
end

