-- ==== Sys2Proof/Laws/Ops.lean ====
section
/-! SUPPORT. What each shared operation can do, said once: its cases, and the fields it leaves alone. -/

namespace Sys2Proof.Machine

variable (s : State)

/-! ### errorEffect: what it leaves alone -/

@[simp] theorem errorEffect_params (e : FaultEvent) : (errorEffect e s).params = s.params := by cases e <;> rfl
@[simp] theorem errorEffect_resClaim (e : FaultEvent) : (errorEffect e s).resClaim = s.resClaim := by cases e <;> rfl
@[simp] theorem errorEffect_genEnable (e : FaultEvent) : (errorEffect e s).genEnable = s.genEnable := by cases e <;> rfl
@[simp] theorem errorEffect_genH (e : FaultEvent) : (errorEffect e s).genH = s.genH := by cases e <;> rfl
@[simp] theorem errorEffect_genV (e : FaultEvent) : (errorEffect e s).genV = s.genV := by cases e <;> rfl
@[simp] theorem errorEffect_genP (e : FaultEvent) : (errorEffect e s).genP = s.genP := by cases e <;> rfl
@[simp] theorem errorEffect_pixQ (e : FaultEvent) : (errorEffect e s).pixQ = s.pixQ := by cases e <;> rfl
@[simp] theorem errorEffect_pixTxOver (e : FaultEvent) : (errorEffect e s).pixTxOver = s.pixTxOver := by cases e <;> rfl
@[simp] theorem errorEffect_paramOver (e : FaultEvent) : (errorEffect e s).paramOver = s.paramOver := by cases e <;> rfl
@[simp] theorem errorEffect_imemUsed (e : FaultEvent) : (errorEffect e s).imemUsed = s.imemUsed := by cases e <;> rfl
@[simp] theorem errorEffect_seqFbBase (e : FaultEvent) : (errorEffect e s).seqFbBase = s.seqFbBase := by cases e <;> rfl
@[simp] theorem errorEffect_seqFbLen (e : FaultEvent) : (errorEffect e s).seqFbLen = s.seqFbLen := by cases e <;> rfl
@[simp] theorem errorEffect_seqPtrAddr (e : FaultEvent) : (errorEffect e s).seqPtrAddr = s.seqPtrAddr := by cases e <;> rfl
@[simp] theorem errorEffect_seqParamH (e : FaultEvent) : (errorEffect e s).seqParamH = s.seqParamH := by cases e <;> rfl
@[simp] theorem errorEffect_seqParamV (e : FaultEvent) : (errorEffect e s).seqParamV = s.seqParamV := by cases e <;> rfl
@[simp] theorem errorEffect_seqParamP (e : FaultEvent) : (errorEffect e s).seqParamP = s.seqParamP := by cases e <;> rfl
@[simp] theorem errorEffect_seqPins (e : FaultEvent) : (errorEffect e s).seqPins = s.seqPins := by cases e <;> rfl
@[simp] theorem errorEffect_seqState (e : FaultEvent) : (errorEffect e s).seqState = s.seqState := by cases e <;> rfl
@[simp] theorem errorEffect_failCode (e : FaultEvent) : (errorEffect e s).failCode = s.failCode := by cases e <;> rfl
@[simp] theorem errorEffect_mem (e : FaultEvent) : (errorEffect e s).mem = s.mem := by cases e <;> rfl
@[simp] theorem errorEffect_pixOut (e : FaultEvent) : (errorEffect e s).pixOut = s.pixOut := by cases e <;> rfl
@[simp] theorem errorEffect_faults (e : FaultEvent) : (errorEffect e s).faults = s.faults := by cases e <;> rfl
@[simp] theorem errorEffect_stepNo (e : FaultEvent) : (errorEffect e s).stepNo = s.stepNo := by cases e <;> rfl
@[simp] theorem errorEffect_sched (e : FaultEvent) : (errorEffect e s).sched = s.sched := by cases e <;> rfl
@[simp] theorem errorEffect_hostQ (e : FaultEvent) : (errorEffect e s).hostQ = s.hostQ := by cases e <;> rfl
@[simp] theorem errorEffect_resp (e : FaultEvent) : (errorEffect e s).resp = s.resp := by cases e <;> rfl

/-! ### raiseEvent: what it leaves alone -/

@[simp] theorem raiseEvent_params (e : FaultEvent) : (raiseEvent e s).params = s.params := by cases e <;> rfl
@[simp] theorem raiseEvent_resClaim (e : FaultEvent) : (raiseEvent e s).resClaim = s.resClaim := by cases e <;> rfl
@[simp] theorem raiseEvent_genEnable (e : FaultEvent) : (raiseEvent e s).genEnable = s.genEnable := by cases e <;> rfl
@[simp] theorem raiseEvent_genH (e : FaultEvent) : (raiseEvent e s).genH = s.genH := by cases e <;> rfl
@[simp] theorem raiseEvent_genV (e : FaultEvent) : (raiseEvent e s).genV = s.genV := by cases e <;> rfl
@[simp] theorem raiseEvent_genP (e : FaultEvent) : (raiseEvent e s).genP = s.genP := by cases e <;> rfl
@[simp] theorem raiseEvent_pixQ (e : FaultEvent) : (raiseEvent e s).pixQ = s.pixQ := by cases e <;> rfl
@[simp] theorem raiseEvent_pixTxOver (e : FaultEvent) : (raiseEvent e s).pixTxOver = s.pixTxOver := by cases e <;> rfl
@[simp] theorem raiseEvent_paramOver (e : FaultEvent) : (raiseEvent e s).paramOver = s.paramOver := by cases e <;> rfl
@[simp] theorem raiseEvent_imemUsed (e : FaultEvent) : (raiseEvent e s).imemUsed = s.imemUsed := by cases e <;> rfl
@[simp] theorem raiseEvent_seqFbBase (e : FaultEvent) : (raiseEvent e s).seqFbBase = s.seqFbBase := by cases e <;> rfl
@[simp] theorem raiseEvent_seqFbLen (e : FaultEvent) : (raiseEvent e s).seqFbLen = s.seqFbLen := by cases e <;> rfl
@[simp] theorem raiseEvent_seqPtrAddr (e : FaultEvent) : (raiseEvent e s).seqPtrAddr = s.seqPtrAddr := by cases e <;> rfl
@[simp] theorem raiseEvent_seqParamH (e : FaultEvent) : (raiseEvent e s).seqParamH = s.seqParamH := by cases e <;> rfl
@[simp] theorem raiseEvent_seqParamV (e : FaultEvent) : (raiseEvent e s).seqParamV = s.seqParamV := by cases e <;> rfl
@[simp] theorem raiseEvent_seqParamP (e : FaultEvent) : (raiseEvent e s).seqParamP = s.seqParamP := by cases e <;> rfl
@[simp] theorem raiseEvent_seqPins (e : FaultEvent) : (raiseEvent e s).seqPins = s.seqPins := by cases e <;> rfl
@[simp] theorem raiseEvent_seqState (e : FaultEvent) : (raiseEvent e s).seqState = s.seqState := by cases e <;> rfl
@[simp] theorem raiseEvent_failCode (e : FaultEvent) : (raiseEvent e s).failCode = s.failCode := by cases e <;> rfl
@[simp] theorem raiseEvent_mem (e : FaultEvent) : (raiseEvent e s).mem = s.mem := by cases e <;> rfl
@[simp] theorem raiseEvent_pixOut (e : FaultEvent) : (raiseEvent e s).pixOut = s.pixOut := by cases e <;> rfl
@[simp] theorem raiseEvent_stepNo (e : FaultEvent) : (raiseEvent e s).stepNo = s.stepNo := by cases e <;> rfl
@[simp] theorem raiseEvent_sched (e : FaultEvent) : (raiseEvent e s).sched = s.sched := by cases e <;> rfl
@[simp] theorem raiseEvent_hostQ (e : FaultEvent) : (raiseEvent e s).hostQ = s.hostQ := by cases e <;> rfl
@[simp] theorem raiseEvent_resp (e : FaultEvent) : (raiseEvent e s).resp = s.resp := by cases e <;> rfl

@[simp] theorem raiseEvent_faults (e : FaultEvent) : (raiseEvent e s).faults = s.faults ++ [e] := rfl

/-- A raised event changes no channel but the one it names (60_exceptions.md R311). -/
theorem raiseEvent_ch (e : FaultEvent) (m : Chan) : (raiseEvent e s).ch m = (errorEffect e s).ch m := by
  cases m <;> rfl

/-- What a trigger can do: nothing, CFG_ERR, a zero count, or a start (41_transfer_engine.md R171). -/
theorem trigger_cases (n : Chan) :
    trigger n s = s ∨
    (Ctrl.busy (s.ch n).ctrl = false ∧ Ctrl.err (s.ch n).ctrl = false ∧ Ctrl.en (s.ch n).ctrl = true ∧
      ((Ctrl.configLegal (s.ch n).ctrl = false ∧ trigger n s = raiseEvent (.cfgErr n) s) ∨
       (Ctrl.configLegal (s.ch n).ctrl = true ∧ (s.ch n).tcReload = 0#32 ∧
          trigger n s = s.setCh n { s.ch n with tcRemain := 0#32 }) ∨
       (Ctrl.configLegal (s.ch n).ctrl = true ∧ (s.ch n).tcReload ≠ 0#32 ∧
          trigger n s = s.setCh n { s.ch n with tcRemain := (s.ch n).tcReload, phase := .read,
                                                ctrl := Ctrl.putBusy true (s.ch n).ctrl }))) := by
  unfold trigger
  split
  · exact .inl rfl
  · split
    · exact .inl rfl
    · split
      · exact .inl rfl
      · split
        · right; simp_all
        · split
          · right; simp_all
          · right; simp_all

/-- A trigger of one channel leaves the others alone. -/
theorem trigger_ch_of_ne {n m : Chan} (h : m ≠ n) : (trigger n s).ch m = s.ch m := by
  rcases trigger_cases s n with h1 | ⟨_, _, _, ⟨_, h1⟩ | ⟨_, _, h1⟩ | ⟨_, _, h1⟩⟩ <;> rw [h1]
  · cases n <;> cases m <;> first | rfl | exact absurd rfl h
  · exact State.setCh_ch_of_ne s _ h
  · exact State.setCh_ch_of_ne s _ h

/-- A trigger that finds the channel busy is lost (41_transfer_engine.md R171 case 1). -/
theorem trigger_of_busy {n : Chan} (h : Ctrl.busy (s.ch n).ctrl = true) : trigger n s = s := by simp [trigger, h]

/-- A trigger that finds an error bit is ignored (41_transfer_engine.md R171 case 2). -/
theorem trigger_of_err {n : Chan} (h : Ctrl.err (s.ch n).ctrl = true) : trigger n s = s := by simp [trigger, h]

/-- A successful trigger (41_transfer_engine.md R171 case 6, R173). -/
theorem trigger_of_start {n : Chan} (hb : Ctrl.busy (s.ch n).ctrl = false) (he : Ctrl.err (s.ch n).ctrl = false)
    (hen : Ctrl.en (s.ch n).ctrl = true) (hc : Ctrl.configLegal (s.ch n).ctrl = true) (hz : (s.ch n).tcReload ≠ 0#32) :
    trigger n s = s.setCh n { s.ch n with tcRemain := (s.ch n).tcReload, phase := .read,
                                          ctrl := Ctrl.putBusy true (s.ch n).ctrl } := by
  simp [trigger, hb, he, hen, hc, hz]

/-! ### trigger: what it leaves alone -/

@[simp] theorem trigger_params (n : Chan) : (trigger n s).params = s.params := by
  rcases trigger_cases s n with h | ⟨_, _, _, ⟨_, h⟩ | ⟨_, _, h⟩ | ⟨_, _, h⟩⟩ <;> rw [h] <;> simp
@[simp] theorem trigger_resClaim (n : Chan) : (trigger n s).resClaim = s.resClaim := by
  rcases trigger_cases s n with h | ⟨_, _, _, ⟨_, h⟩ | ⟨_, _, h⟩ | ⟨_, _, h⟩⟩ <;> rw [h] <;> simp
@[simp] theorem trigger_genEnable (n : Chan) : (trigger n s).genEnable = s.genEnable := by
  rcases trigger_cases s n with h | ⟨_, _, _, ⟨_, h⟩ | ⟨_, _, h⟩ | ⟨_, _, h⟩⟩ <;> rw [h] <;> simp
@[simp] theorem trigger_genH (n : Chan) : (trigger n s).genH = s.genH := by
  rcases trigger_cases s n with h | ⟨_, _, _, ⟨_, h⟩ | ⟨_, _, h⟩ | ⟨_, _, h⟩⟩ <;> rw [h] <;> simp
@[simp] theorem trigger_genV (n : Chan) : (trigger n s).genV = s.genV := by
  rcases trigger_cases s n with h | ⟨_, _, _, ⟨_, h⟩ | ⟨_, _, h⟩ | ⟨_, _, h⟩⟩ <;> rw [h] <;> simp
@[simp] theorem trigger_genP (n : Chan) : (trigger n s).genP = s.genP := by
  rcases trigger_cases s n with h | ⟨_, _, _, ⟨_, h⟩ | ⟨_, _, h⟩ | ⟨_, _, h⟩⟩ <;> rw [h] <;> simp
@[simp] theorem trigger_pixQ (n : Chan) : (trigger n s).pixQ = s.pixQ := by
  rcases trigger_cases s n with h | ⟨_, _, _, ⟨_, h⟩ | ⟨_, _, h⟩ | ⟨_, _, h⟩⟩ <;> rw [h] <;> simp
@[simp] theorem trigger_pixTxOver (n : Chan) : (trigger n s).pixTxOver = s.pixTxOver := by
  rcases trigger_cases s n with h | ⟨_, _, _, ⟨_, h⟩ | ⟨_, _, h⟩ | ⟨_, _, h⟩⟩ <;> rw [h] <;> simp
@[simp] theorem trigger_paramOver (n : Chan) : (trigger n s).paramOver = s.paramOver := by
  rcases trigger_cases s n with h | ⟨_, _, _, ⟨_, h⟩ | ⟨_, _, h⟩ | ⟨_, _, h⟩⟩ <;> rw [h] <;> simp
@[simp] theorem trigger_imemUsed (n : Chan) : (trigger n s).imemUsed = s.imemUsed := by
  rcases trigger_cases s n with h | ⟨_, _, _, ⟨_, h⟩ | ⟨_, _, h⟩ | ⟨_, _, h⟩⟩ <;> rw [h] <;> simp
@[simp] theorem trigger_seqFbBase (n : Chan) : (trigger n s).seqFbBase = s.seqFbBase := by
  rcases trigger_cases s n with h | ⟨_, _, _, ⟨_, h⟩ | ⟨_, _, h⟩ | ⟨_, _, h⟩⟩ <;> rw [h] <;> simp
@[simp] theorem trigger_seqFbLen (n : Chan) : (trigger n s).seqFbLen = s.seqFbLen := by
  rcases trigger_cases s n with h | ⟨_, _, _, ⟨_, h⟩ | ⟨_, _, h⟩ | ⟨_, _, h⟩⟩ <;> rw [h] <;> simp
@[simp] theorem trigger_seqPtrAddr (n : Chan) : (trigger n s).seqPtrAddr = s.seqPtrAddr := by
  rcases trigger_cases s n with h | ⟨_, _, _, ⟨_, h⟩ | ⟨_, _, h⟩ | ⟨_, _, h⟩⟩ <;> rw [h] <;> simp
@[simp] theorem trigger_seqParamH (n : Chan) : (trigger n s).seqParamH = s.seqParamH := by
  rcases trigger_cases s n with h | ⟨_, _, _, ⟨_, h⟩ | ⟨_, _, h⟩ | ⟨_, _, h⟩⟩ <;> rw [h] <;> simp
@[simp] theorem trigger_seqParamV (n : Chan) : (trigger n s).seqParamV = s.seqParamV := by
  rcases trigger_cases s n with h | ⟨_, _, _, ⟨_, h⟩ | ⟨_, _, h⟩ | ⟨_, _, h⟩⟩ <;> rw [h] <;> simp
@[simp] theorem trigger_seqParamP (n : Chan) : (trigger n s).seqParamP = s.seqParamP := by
  rcases trigger_cases s n with h | ⟨_, _, _, ⟨_, h⟩ | ⟨_, _, h⟩ | ⟨_, _, h⟩⟩ <;> rw [h] <;> simp
@[simp] theorem trigger_seqPins (n : Chan) : (trigger n s).seqPins = s.seqPins := by
  rcases trigger_cases s n with h | ⟨_, _, _, ⟨_, h⟩ | ⟨_, _, h⟩ | ⟨_, _, h⟩⟩ <;> rw [h] <;> simp
@[simp] theorem trigger_seqState (n : Chan) : (trigger n s).seqState = s.seqState := by
  rcases trigger_cases s n with h | ⟨_, _, _, ⟨_, h⟩ | ⟨_, _, h⟩ | ⟨_, _, h⟩⟩ <;> rw [h] <;> simp
@[simp] theorem trigger_failCode (n : Chan) : (trigger n s).failCode = s.failCode := by
  rcases trigger_cases s n with h | ⟨_, _, _, ⟨_, h⟩ | ⟨_, _, h⟩ | ⟨_, _, h⟩⟩ <;> rw [h] <;> simp
@[simp] theorem trigger_mem (n : Chan) : (trigger n s).mem = s.mem := by
  rcases trigger_cases s n with h | ⟨_, _, _, ⟨_, h⟩ | ⟨_, _, h⟩ | ⟨_, _, h⟩⟩ <;> rw [h] <;> simp
@[simp] theorem trigger_pixOut (n : Chan) : (trigger n s).pixOut = s.pixOut := by
  rcases trigger_cases s n with h | ⟨_, _, _, ⟨_, h⟩ | ⟨_, _, h⟩ | ⟨_, _, h⟩⟩ <;> rw [h] <;> simp
@[simp] theorem trigger_stepNo (n : Chan) : (trigger n s).stepNo = s.stepNo := by
  rcases trigger_cases s n with h | ⟨_, _, _, ⟨_, h⟩ | ⟨_, _, h⟩ | ⟨_, _, h⟩⟩ <;> rw [h] <;> simp
@[simp] theorem trigger_sched (n : Chan) : (trigger n s).sched = s.sched := by
  rcases trigger_cases s n with h | ⟨_, _, _, ⟨_, h⟩ | ⟨_, _, h⟩ | ⟨_, _, h⟩⟩ <;> rw [h] <;> simp
@[simp] theorem trigger_hostQ (n : Chan) : (trigger n s).hostQ = s.hostQ := by
  rcases trigger_cases s n with h | ⟨_, _, _, ⟨_, h⟩ | ⟨_, _, h⟩ | ⟨_, _, h⟩⟩ <;> rw [h] <;> simp
@[simp] theorem trigger_resp (n : Chan) : (trigger n s).resp = s.resp := by
  rcases trigger_cases s n with h | ⟨_, _, _, ⟨_, h⟩ | ⟨_, _, h⟩ | ⟨_, _, h⟩⟩ <;> rw [h] <;> simp

@[simp] theorem trigger_noprogErr (n : Chan) : (trigger n s).noprogErr = s.noprogErr := by
  rcases trigger_cases s n with h | ⟨_, _, _, ⟨_, h⟩ | ⟨_, _, h⟩ | ⟨_, _, h⟩⟩ <;> rw [h] <;> rfl

@[simp] theorem trigger_doubleStart (n : Chan) : (trigger n s).doubleStart = s.doubleStart := by
  rcases trigger_cases s n with h | ⟨_, _, _, ⟨_, h⟩ | ⟨_, _, h⟩ | ⟨_, _, h⟩⟩ <;> rw [h] <;> rfl

/-! ### triggerIf: what it leaves alone -/

@[simp] theorem triggerIf_params (b : Bool) (n : Chan) : (triggerIf b n s).params = s.params := by cases b <;> simp [triggerIf]
@[simp] theorem triggerIf_resClaim (b : Bool) (n : Chan) : (triggerIf b n s).resClaim = s.resClaim := by cases b <;> simp [triggerIf]
@[simp] theorem triggerIf_genEnable (b : Bool) (n : Chan) : (triggerIf b n s).genEnable = s.genEnable := by cases b <;> simp [triggerIf]
@[simp] theorem triggerIf_genH (b : Bool) (n : Chan) : (triggerIf b n s).genH = s.genH := by cases b <;> simp [triggerIf]
@[simp] theorem triggerIf_genV (b : Bool) (n : Chan) : (triggerIf b n s).genV = s.genV := by cases b <;> simp [triggerIf]
@[simp] theorem triggerIf_genP (b : Bool) (n : Chan) : (triggerIf b n s).genP = s.genP := by cases b <;> simp [triggerIf]
@[simp] theorem triggerIf_pixQ (b : Bool) (n : Chan) : (triggerIf b n s).pixQ = s.pixQ := by cases b <;> simp [triggerIf]
@[simp] theorem triggerIf_pixTxOver (b : Bool) (n : Chan) : (triggerIf b n s).pixTxOver = s.pixTxOver := by cases b <;> simp [triggerIf]
@[simp] theorem triggerIf_paramOver (b : Bool) (n : Chan) : (triggerIf b n s).paramOver = s.paramOver := by cases b <;> simp [triggerIf]
@[simp] theorem triggerIf_noprogErr (b : Bool) (n : Chan) : (triggerIf b n s).noprogErr = s.noprogErr := by cases b <;> simp [triggerIf]
@[simp] theorem triggerIf_imemUsed (b : Bool) (n : Chan) : (triggerIf b n s).imemUsed = s.imemUsed := by cases b <;> simp [triggerIf]
@[simp] theorem triggerIf_seqFbBase (b : Bool) (n : Chan) : (triggerIf b n s).seqFbBase = s.seqFbBase := by cases b <;> simp [triggerIf]
@[simp] theorem triggerIf_seqFbLen (b : Bool) (n : Chan) : (triggerIf b n s).seqFbLen = s.seqFbLen := by cases b <;> simp [triggerIf]
@[simp] theorem triggerIf_seqPtrAddr (b : Bool) (n : Chan) : (triggerIf b n s).seqPtrAddr = s.seqPtrAddr := by cases b <;> simp [triggerIf]
@[simp] theorem triggerIf_seqParamH (b : Bool) (n : Chan) : (triggerIf b n s).seqParamH = s.seqParamH := by cases b <;> simp [triggerIf]
@[simp] theorem triggerIf_seqParamV (b : Bool) (n : Chan) : (triggerIf b n s).seqParamV = s.seqParamV := by cases b <;> simp [triggerIf]
@[simp] theorem triggerIf_seqParamP (b : Bool) (n : Chan) : (triggerIf b n s).seqParamP = s.seqParamP := by cases b <;> simp [triggerIf]
@[simp] theorem triggerIf_seqPins (b : Bool) (n : Chan) : (triggerIf b n s).seqPins = s.seqPins := by cases b <;> simp [triggerIf]
@[simp] theorem triggerIf_seqState (b : Bool) (n : Chan) : (triggerIf b n s).seqState = s.seqState := by cases b <;> simp [triggerIf]
@[simp] theorem triggerIf_failCode (b : Bool) (n : Chan) : (triggerIf b n s).failCode = s.failCode := by cases b <;> simp [triggerIf]
@[simp] theorem triggerIf_doubleStart (b : Bool) (n : Chan) : (triggerIf b n s).doubleStart = s.doubleStart := by cases b <;> simp [triggerIf]
@[simp] theorem triggerIf_mem (b : Bool) (n : Chan) : (triggerIf b n s).mem = s.mem := by cases b <;> simp [triggerIf]
@[simp] theorem triggerIf_pixOut (b : Bool) (n : Chan) : (triggerIf b n s).pixOut = s.pixOut := by cases b <;> simp [triggerIf]
@[simp] theorem triggerIf_stepNo (b : Bool) (n : Chan) : (triggerIf b n s).stepNo = s.stepNo := by cases b <;> simp [triggerIf]
@[simp] theorem triggerIf_sched (b : Bool) (n : Chan) : (triggerIf b n s).sched = s.sched := by cases b <;> simp [triggerIf]
@[simp] theorem triggerIf_hostQ (b : Bool) (n : Chan) : (triggerIf b n s).hostQ = s.hostQ := by cases b <;> simp [triggerIf]
@[simp] theorem triggerIf_resp (b : Bool) (n : Chan) : (triggerIf b n s).resp = s.resp := by cases b <;> simp [triggerIf]

theorem triggerIf_ch_of_ne {n m : Chan} (b : Bool) (h : m ≠ n) : (triggerIf b n s).ch m = s.ch m := by
  cases b
  · rfl
  · exact trigger_ch_of_ne s h

/-! ### wrMultiTrig: what it leaves alone -/

@[simp] theorem wrMultiTrig_params (v : Word) : (wrMultiTrig v s).params = s.params := by simp [wrMultiTrig]
@[simp] theorem wrMultiTrig_resClaim (v : Word) : (wrMultiTrig v s).resClaim = s.resClaim := by simp [wrMultiTrig]
@[simp] theorem wrMultiTrig_genEnable (v : Word) : (wrMultiTrig v s).genEnable = s.genEnable := by simp [wrMultiTrig]
@[simp] theorem wrMultiTrig_genH (v : Word) : (wrMultiTrig v s).genH = s.genH := by simp [wrMultiTrig]
@[simp] theorem wrMultiTrig_genV (v : Word) : (wrMultiTrig v s).genV = s.genV := by simp [wrMultiTrig]
@[simp] theorem wrMultiTrig_genP (v : Word) : (wrMultiTrig v s).genP = s.genP := by simp [wrMultiTrig]
@[simp] theorem wrMultiTrig_pixQ (v : Word) : (wrMultiTrig v s).pixQ = s.pixQ := by simp [wrMultiTrig]
@[simp] theorem wrMultiTrig_pixTxOver (v : Word) : (wrMultiTrig v s).pixTxOver = s.pixTxOver := by simp [wrMultiTrig]
@[simp] theorem wrMultiTrig_paramOver (v : Word) : (wrMultiTrig v s).paramOver = s.paramOver := by simp [wrMultiTrig]
@[simp] theorem wrMultiTrig_noprogErr (v : Word) : (wrMultiTrig v s).noprogErr = s.noprogErr := by simp [wrMultiTrig]
@[simp] theorem wrMultiTrig_imemUsed (v : Word) : (wrMultiTrig v s).imemUsed = s.imemUsed := by simp [wrMultiTrig]
@[simp] theorem wrMultiTrig_seqFbBase (v : Word) : (wrMultiTrig v s).seqFbBase = s.seqFbBase := by simp [wrMultiTrig]
@[simp] theorem wrMultiTrig_seqFbLen (v : Word) : (wrMultiTrig v s).seqFbLen = s.seqFbLen := by simp [wrMultiTrig]
@[simp] theorem wrMultiTrig_seqPtrAddr (v : Word) : (wrMultiTrig v s).seqPtrAddr = s.seqPtrAddr := by simp [wrMultiTrig]
@[simp] theorem wrMultiTrig_seqParamH (v : Word) : (wrMultiTrig v s).seqParamH = s.seqParamH := by simp [wrMultiTrig]
@[simp] theorem wrMultiTrig_seqParamV (v : Word) : (wrMultiTrig v s).seqParamV = s.seqParamV := by simp [wrMultiTrig]
@[simp] theorem wrMultiTrig_seqParamP (v : Word) : (wrMultiTrig v s).seqParamP = s.seqParamP := by simp [wrMultiTrig]
@[simp] theorem wrMultiTrig_seqPins (v : Word) : (wrMultiTrig v s).seqPins = s.seqPins := by simp [wrMultiTrig]
@[simp] theorem wrMultiTrig_seqState (v : Word) : (wrMultiTrig v s).seqState = s.seqState := by simp [wrMultiTrig]
@[simp] theorem wrMultiTrig_failCode (v : Word) : (wrMultiTrig v s).failCode = s.failCode := by simp [wrMultiTrig]
@[simp] theorem wrMultiTrig_doubleStart (v : Word) : (wrMultiTrig v s).doubleStart = s.doubleStart := by simp [wrMultiTrig]
@[simp] theorem wrMultiTrig_mem (v : Word) : (wrMultiTrig v s).mem = s.mem := by simp [wrMultiTrig]
@[simp] theorem wrMultiTrig_pixOut (v : Word) : (wrMultiTrig v s).pixOut = s.pixOut := by simp [wrMultiTrig]
@[simp] theorem wrMultiTrig_stepNo (v : Word) : (wrMultiTrig v s).stepNo = s.stepNo := by simp [wrMultiTrig]
@[simp] theorem wrMultiTrig_sched (v : Word) : (wrMultiTrig v s).sched = s.sched := by simp [wrMultiTrig]
@[simp] theorem wrMultiTrig_hostQ (v : Word) : (wrMultiTrig v s).hostQ = s.hostQ := by simp [wrMultiTrig]
@[simp] theorem wrMultiTrig_resp (v : Word) : (wrMultiTrig v s).resp = s.resp := by simp [wrMultiTrig]

/-! ### noprogCheck: what it leaves alone -/

@[simp] theorem noprogCheck_params (o n : Word) (g : Gen) : (noprogCheck o n g s).params = s.params := by
  unfold noprogCheck; split <;> rfl
@[simp] theorem noprogCheck_ch0 (o n : Word) (g : Gen) : (noprogCheck o n g s).ch0 = s.ch0 := by
  unfold noprogCheck; split <;> rfl
@[simp] theorem noprogCheck_ch1 (o n : Word) (g : Gen) : (noprogCheck o n g s).ch1 = s.ch1 := by
  unfold noprogCheck; split <;> rfl
@[simp] theorem noprogCheck_ch2 (o n : Word) (g : Gen) : (noprogCheck o n g s).ch2 = s.ch2 := by
  unfold noprogCheck; split <;> rfl
@[simp] theorem noprogCheck_resClaim (o n : Word) (g : Gen) : (noprogCheck o n g s).resClaim = s.resClaim := by
  unfold noprogCheck; split <;> rfl
@[simp] theorem noprogCheck_genEnable (o n : Word) (g : Gen) : (noprogCheck o n g s).genEnable = s.genEnable := by
  unfold noprogCheck; split <;> rfl
@[simp] theorem noprogCheck_genH (o n : Word) (g : Gen) : (noprogCheck o n g s).genH = s.genH := by
  unfold noprogCheck; split <;> rfl
@[simp] theorem noprogCheck_genV (o n : Word) (g : Gen) : (noprogCheck o n g s).genV = s.genV := by
  unfold noprogCheck; split <;> rfl
@[simp] theorem noprogCheck_genP (o n : Word) (g : Gen) : (noprogCheck o n g s).genP = s.genP := by
  unfold noprogCheck; split <;> rfl
@[simp] theorem noprogCheck_pixQ (o n : Word) (g : Gen) : (noprogCheck o n g s).pixQ = s.pixQ := by
  unfold noprogCheck; split <;> rfl
@[simp] theorem noprogCheck_pixTxOver (o n : Word) (g : Gen) : (noprogCheck o n g s).pixTxOver = s.pixTxOver := by
  unfold noprogCheck; split <;> rfl
@[simp] theorem noprogCheck_paramOver (o n : Word) (g : Gen) : (noprogCheck o n g s).paramOver = s.paramOver := by
  unfold noprogCheck; split <;> rfl
@[simp] theorem noprogCheck_imemUsed (o n : Word) (g : Gen) : (noprogCheck o n g s).imemUsed = s.imemUsed := by
  unfold noprogCheck; split <;> rfl
@[simp] theorem noprogCheck_seqFbBase (o n : Word) (g : Gen) : (noprogCheck o n g s).seqFbBase = s.seqFbBase := by
  unfold noprogCheck; split <;> rfl
@[simp] theorem noprogCheck_seqFbLen (o n : Word) (g : Gen) : (noprogCheck o n g s).seqFbLen = s.seqFbLen := by
  unfold noprogCheck; split <;> rfl
@[simp] theorem noprogCheck_seqPtrAddr (o n : Word) (g : Gen) : (noprogCheck o n g s).seqPtrAddr = s.seqPtrAddr := by
  unfold noprogCheck; split <;> rfl
@[simp] theorem noprogCheck_seqParamH (o n : Word) (g : Gen) : (noprogCheck o n g s).seqParamH = s.seqParamH := by
  unfold noprogCheck; split <;> rfl
@[simp] theorem noprogCheck_seqParamV (o n : Word) (g : Gen) : (noprogCheck o n g s).seqParamV = s.seqParamV := by
  unfold noprogCheck; split <;> rfl
@[simp] theorem noprogCheck_seqParamP (o n : Word) (g : Gen) : (noprogCheck o n g s).seqParamP = s.seqParamP := by
  unfold noprogCheck; split <;> rfl
@[simp] theorem noprogCheck_seqPins (o n : Word) (g : Gen) : (noprogCheck o n g s).seqPins = s.seqPins := by
  unfold noprogCheck; split <;> rfl
@[simp] theorem noprogCheck_seqState (o n : Word) (g : Gen) : (noprogCheck o n g s).seqState = s.seqState := by
  unfold noprogCheck; split <;> rfl
@[simp] theorem noprogCheck_failCode (o n : Word) (g : Gen) : (noprogCheck o n g s).failCode = s.failCode := by
  unfold noprogCheck; split <;> rfl
@[simp] theorem noprogCheck_doubleStart (o n : Word) (g : Gen) : (noprogCheck o n g s).doubleStart = s.doubleStart := by
  unfold noprogCheck; split <;> rfl
@[simp] theorem noprogCheck_mem (o n : Word) (g : Gen) : (noprogCheck o n g s).mem = s.mem := by
  unfold noprogCheck; split <;> rfl
@[simp] theorem noprogCheck_pixOut (o n : Word) (g : Gen) : (noprogCheck o n g s).pixOut = s.pixOut := by
  unfold noprogCheck; split <;> rfl
@[simp] theorem noprogCheck_stepNo (o n : Word) (g : Gen) : (noprogCheck o n g s).stepNo = s.stepNo := by
  unfold noprogCheck; split <;> rfl
@[simp] theorem noprogCheck_sched (o n : Word) (g : Gen) : (noprogCheck o n g s).sched = s.sched := by
  unfold noprogCheck; split <;> rfl
@[simp] theorem noprogCheck_hostQ (o n : Word) (g : Gen) : (noprogCheck o n g s).hostQ = s.hostQ := by
  unfold noprogCheck; split <;> rfl
@[simp] theorem noprogCheck_resp (o n : Word) (g : Gen) : (noprogCheck o n g s).resp = s.resp := by
  unfold noprogCheck; split <;> rfl

@[simp] theorem noprogCheck_gen (o n : Word) (g k : Gen) : (noprogCheck o n g s).gen k = s.gen k := by
  cases k <;> simp

/-! ### markEnabled: what it leaves alone -/

@[simp] theorem markEnabled_params (o n : Word) (g : Gen) : (markEnabled o n g s).params = s.params := by
  unfold markEnabled; split <;> rfl
@[simp] theorem markEnabled_ch0 (o n : Word) (g : Gen) : (markEnabled o n g s).ch0 = s.ch0 := by
  unfold markEnabled; split <;> rfl
@[simp] theorem markEnabled_ch1 (o n : Word) (g : Gen) : (markEnabled o n g s).ch1 = s.ch1 := by
  unfold markEnabled; split <;> rfl
@[simp] theorem markEnabled_ch2 (o n : Word) (g : Gen) : (markEnabled o n g s).ch2 = s.ch2 := by
  unfold markEnabled; split <;> rfl
@[simp] theorem markEnabled_resClaim (o n : Word) (g : Gen) : (markEnabled o n g s).resClaim = s.resClaim := by
  unfold markEnabled; split <;> rfl
@[simp] theorem markEnabled_genEnable (o n : Word) (g : Gen) : (markEnabled o n g s).genEnable = s.genEnable := by
  unfold markEnabled; split <;> rfl
@[simp] theorem markEnabled_pixQ (o n : Word) (g : Gen) : (markEnabled o n g s).pixQ = s.pixQ := by
  unfold markEnabled; split <;> rfl
@[simp] theorem markEnabled_pixTxOver (o n : Word) (g : Gen) : (markEnabled o n g s).pixTxOver = s.pixTxOver := by
  unfold markEnabled; split <;> rfl
@[simp] theorem markEnabled_paramOver (o n : Word) (g : Gen) : (markEnabled o n g s).paramOver = s.paramOver := by
  unfold markEnabled; split <;> rfl
@[simp] theorem markEnabled_noprogErr (o n : Word) (g : Gen) : (markEnabled o n g s).noprogErr = s.noprogErr := by
  unfold markEnabled; split <;> rfl
@[simp] theorem markEnabled_imemUsed (o n : Word) (g : Gen) : (markEnabled o n g s).imemUsed = s.imemUsed := by
  unfold markEnabled; split <;> rfl
@[simp] theorem markEnabled_seqFbBase (o n : Word) (g : Gen) : (markEnabled o n g s).seqFbBase = s.seqFbBase := by
  unfold markEnabled; split <;> rfl
@[simp] theorem markEnabled_seqFbLen (o n : Word) (g : Gen) : (markEnabled o n g s).seqFbLen = s.seqFbLen := by
  unfold markEnabled; split <;> rfl
@[simp] theorem markEnabled_seqPtrAddr (o n : Word) (g : Gen) : (markEnabled o n g s).seqPtrAddr = s.seqPtrAddr := by
  unfold markEnabled; split <;> rfl
@[simp] theorem markEnabled_seqParamH (o n : Word) (g : Gen) : (markEnabled o n g s).seqParamH = s.seqParamH := by
  unfold markEnabled; split <;> rfl
@[simp] theorem markEnabled_seqParamV (o n : Word) (g : Gen) : (markEnabled o n g s).seqParamV = s.seqParamV := by
  unfold markEnabled; split <;> rfl
@[simp] theorem markEnabled_seqParamP (o n : Word) (g : Gen) : (markEnabled o n g s).seqParamP = s.seqParamP := by
  unfold markEnabled; split <;> rfl
@[simp] theorem markEnabled_seqPins (o n : Word) (g : Gen) : (markEnabled o n g s).seqPins = s.seqPins := by
  unfold markEnabled; split <;> rfl
@[simp] theorem markEnabled_seqState (o n : Word) (g : Gen) : (markEnabled o n g s).seqState = s.seqState := by
  unfold markEnabled; split <;> rfl
@[simp] theorem markEnabled_failCode (o n : Word) (g : Gen) : (markEnabled o n g s).failCode = s.failCode := by
  unfold markEnabled; split <;> rfl
@[simp] theorem markEnabled_doubleStart (o n : Word) (g : Gen) : (markEnabled o n g s).doubleStart = s.doubleStart := by
  unfold markEnabled; split <;> rfl
@[simp] theorem markEnabled_mem (o n : Word) (g : Gen) : (markEnabled o n g s).mem = s.mem := by
  unfold markEnabled; split <;> rfl
@[simp] theorem markEnabled_pixOut (o n : Word) (g : Gen) : (markEnabled o n g s).pixOut = s.pixOut := by
  unfold markEnabled; split <;> rfl
@[simp] theorem markEnabled_faults (o n : Word) (g : Gen) : (markEnabled o n g s).faults = s.faults := by
  unfold markEnabled; split <;> rfl
@[simp] theorem markEnabled_stepNo (o n : Word) (g : Gen) : (markEnabled o n g s).stepNo = s.stepNo := by
  unfold markEnabled; split <;> rfl
@[simp] theorem markEnabled_sched (o n : Word) (g : Gen) : (markEnabled o n g s).sched = s.sched := by
  unfold markEnabled; split <;> rfl
@[simp] theorem markEnabled_hostQ (o n : Word) (g : Gen) : (markEnabled o n g s).hostQ = s.hostQ := by
  unfold markEnabled; split <;> rfl
@[simp] theorem markEnabled_resp (o n : Word) (g : Gen) : (markEnabled o n g s).resp = s.resp := by
  unfold markEnabled; split <;> rfl

/-- What EN_STEP's record does to a generator (44_timing_generators.md R241). -/
theorem markEnabled_gen (o n : Word) (g k : Gen) :
    (markEnabled o n g s).gen k =
      if k = g ∧ enableRises o n g = true then { s.gen g with enStep := some s.stepNo } else s.gen k := by
  cases h : enableRises o n g <;> cases g <;> cases k <;> simp [markEnabled, h, State.setGen]

/-! ### wrGenEnable: what it leaves alone -/

@[simp] theorem wrGenEnable_params (v : Word) : (wrGenEnable v s).params = s.params := by simp [wrGenEnable]
@[simp] theorem wrGenEnable_ch0 (v : Word) : (wrGenEnable v s).ch0 = s.ch0 := by simp [wrGenEnable]
@[simp] theorem wrGenEnable_ch1 (v : Word) : (wrGenEnable v s).ch1 = s.ch1 := by simp [wrGenEnable]
@[simp] theorem wrGenEnable_ch2 (v : Word) : (wrGenEnable v s).ch2 = s.ch2 := by simp [wrGenEnable]
@[simp] theorem wrGenEnable_resClaim (v : Word) : (wrGenEnable v s).resClaim = s.resClaim := by simp [wrGenEnable]
@[simp] theorem wrGenEnable_pixQ (v : Word) : (wrGenEnable v s).pixQ = s.pixQ := by simp [wrGenEnable]
@[simp] theorem wrGenEnable_pixTxOver (v : Word) : (wrGenEnable v s).pixTxOver = s.pixTxOver := by simp [wrGenEnable]
@[simp] theorem wrGenEnable_paramOver (v : Word) : (wrGenEnable v s).paramOver = s.paramOver := by simp [wrGenEnable]
@[simp] theorem wrGenEnable_imemUsed (v : Word) : (wrGenEnable v s).imemUsed = s.imemUsed := by simp [wrGenEnable]
@[simp] theorem wrGenEnable_seqFbBase (v : Word) : (wrGenEnable v s).seqFbBase = s.seqFbBase := by simp [wrGenEnable]
@[simp] theorem wrGenEnable_seqFbLen (v : Word) : (wrGenEnable v s).seqFbLen = s.seqFbLen := by simp [wrGenEnable]
@[simp] theorem wrGenEnable_seqPtrAddr (v : Word) : (wrGenEnable v s).seqPtrAddr = s.seqPtrAddr := by simp [wrGenEnable]
@[simp] theorem wrGenEnable_seqParamH (v : Word) : (wrGenEnable v s).seqParamH = s.seqParamH := by simp [wrGenEnable]
@[simp] theorem wrGenEnable_seqParamV (v : Word) : (wrGenEnable v s).seqParamV = s.seqParamV := by simp [wrGenEnable]
@[simp] theorem wrGenEnable_seqParamP (v : Word) : (wrGenEnable v s).seqParamP = s.seqParamP := by simp [wrGenEnable]
@[simp] theorem wrGenEnable_seqPins (v : Word) : (wrGenEnable v s).seqPins = s.seqPins := by simp [wrGenEnable]
@[simp] theorem wrGenEnable_seqState (v : Word) : (wrGenEnable v s).seqState = s.seqState := by simp [wrGenEnable]
@[simp] theorem wrGenEnable_failCode (v : Word) : (wrGenEnable v s).failCode = s.failCode := by simp [wrGenEnable]
@[simp] theorem wrGenEnable_doubleStart (v : Word) : (wrGenEnable v s).doubleStart = s.doubleStart := by simp [wrGenEnable]
@[simp] theorem wrGenEnable_mem (v : Word) : (wrGenEnable v s).mem = s.mem := by simp [wrGenEnable]
@[simp] theorem wrGenEnable_pixOut (v : Word) : (wrGenEnable v s).pixOut = s.pixOut := by simp [wrGenEnable]
@[simp] theorem wrGenEnable_stepNo (v : Word) : (wrGenEnable v s).stepNo = s.stepNo := by simp [wrGenEnable]
@[simp] theorem wrGenEnable_sched (v : Word) : (wrGenEnable v s).sched = s.sched := by simp [wrGenEnable]
@[simp] theorem wrGenEnable_hostQ (v : Word) : (wrGenEnable v s).hostQ = s.hostQ := by simp [wrGenEnable]
@[simp] theorem wrGenEnable_resp (v : Word) : (wrGenEnable v s).resp = s.resp := by simp [wrGenEnable]

/-- GEN_ENABLE after a write of it (44_timing_generators.md R241). -/
@[simp] theorem wrGenEnable_genEnable (v : Word) : (wrGenEnable v s).genEnable = v &&& genEnableMask := by
  simp [wrGenEnable]

/-- Generator `k` after a write of GEN_ENABLE: only EN_STEP can change (44_timing_generators.md R241). -/
theorem wrGenEnable_gen (v : Word) (k : Gen) :
    (wrGenEnable v s).gen k =
      if enableRises s.genEnable (v &&& genEnableMask) k = true then { s.gen k with enStep := some s.stepNo }
      else s.gen k := by
  have same : ∀ (o n : Word) (w : Word) (k : Gen),
      ({ noprogCheck o n .p (noprogCheck o n .v (noprogCheck o n .h s)) with genEnable := w } : State).gen k =
        s.gen k := by intro o n w k; cases k <;> simp
  simp only [wrGenEnable, markEnabled_gen, same]
  cases k <;> simp

/-! ### wrGenParam: what it leaves alone -/

@[simp] theorem wrGenParam_params (g : Gen) (v : Word) : (wrGenParam g v s).params = s.params := by
  unfold wrGenParam; split <;> rfl
@[simp] theorem wrGenParam_ch0 (g : Gen) (v : Word) : (wrGenParam g v s).ch0 = s.ch0 := by
  unfold wrGenParam; split <;> rfl
@[simp] theorem wrGenParam_ch1 (g : Gen) (v : Word) : (wrGenParam g v s).ch1 = s.ch1 := by
  unfold wrGenParam; split <;> rfl
@[simp] theorem wrGenParam_ch2 (g : Gen) (v : Word) : (wrGenParam g v s).ch2 = s.ch2 := by
  unfold wrGenParam; split <;> rfl
@[simp] theorem wrGenParam_resClaim (g : Gen) (v : Word) : (wrGenParam g v s).resClaim = s.resClaim := by
  unfold wrGenParam; split <;> rfl
@[simp] theorem wrGenParam_genEnable (g : Gen) (v : Word) : (wrGenParam g v s).genEnable = s.genEnable := by
  unfold wrGenParam; split <;> rfl
@[simp] theorem wrGenParam_pixQ (g : Gen) (v : Word) : (wrGenParam g v s).pixQ = s.pixQ := by
  unfold wrGenParam; split <;> rfl
@[simp] theorem wrGenParam_pixTxOver (g : Gen) (v : Word) : (wrGenParam g v s).pixTxOver = s.pixTxOver := by
  unfold wrGenParam; split <;> rfl
@[simp] theorem wrGenParam_noprogErr (g : Gen) (v : Word) : (wrGenParam g v s).noprogErr = s.noprogErr := by
  unfold wrGenParam; split <;> rfl
@[simp] theorem wrGenParam_imemUsed (g : Gen) (v : Word) : (wrGenParam g v s).imemUsed = s.imemUsed := by
  unfold wrGenParam; split <;> rfl
@[simp] theorem wrGenParam_seqFbBase (g : Gen) (v : Word) : (wrGenParam g v s).seqFbBase = s.seqFbBase := by
  unfold wrGenParam; split <;> rfl
@[simp] theorem wrGenParam_seqFbLen (g : Gen) (v : Word) : (wrGenParam g v s).seqFbLen = s.seqFbLen := by
  unfold wrGenParam; split <;> rfl
@[simp] theorem wrGenParam_seqPtrAddr (g : Gen) (v : Word) : (wrGenParam g v s).seqPtrAddr = s.seqPtrAddr := by
  unfold wrGenParam; split <;> rfl
@[simp] theorem wrGenParam_seqParamH (g : Gen) (v : Word) : (wrGenParam g v s).seqParamH = s.seqParamH := by
  unfold wrGenParam; split <;> rfl
@[simp] theorem wrGenParam_seqParamV (g : Gen) (v : Word) : (wrGenParam g v s).seqParamV = s.seqParamV := by
  unfold wrGenParam; split <;> rfl
@[simp] theorem wrGenParam_seqParamP (g : Gen) (v : Word) : (wrGenParam g v s).seqParamP = s.seqParamP := by
  unfold wrGenParam; split <;> rfl
@[simp] theorem wrGenParam_seqPins (g : Gen) (v : Word) : (wrGenParam g v s).seqPins = s.seqPins := by
  unfold wrGenParam; split <;> rfl
@[simp] theorem wrGenParam_seqState (g : Gen) (v : Word) : (wrGenParam g v s).seqState = s.seqState := by
  unfold wrGenParam; split <;> rfl
@[simp] theorem wrGenParam_failCode (g : Gen) (v : Word) : (wrGenParam g v s).failCode = s.failCode := by
  unfold wrGenParam; split <;> rfl
@[simp] theorem wrGenParam_doubleStart (g : Gen) (v : Word) : (wrGenParam g v s).doubleStart = s.doubleStart := by
  unfold wrGenParam; split <;> rfl
@[simp] theorem wrGenParam_mem (g : Gen) (v : Word) : (wrGenParam g v s).mem = s.mem := by
  unfold wrGenParam; split <;> rfl
@[simp] theorem wrGenParam_pixOut (g : Gen) (v : Word) : (wrGenParam g v s).pixOut = s.pixOut := by
  unfold wrGenParam; split <;> rfl
@[simp] theorem wrGenParam_faults (g : Gen) (v : Word) : (wrGenParam g v s).faults = s.faults := by
  unfold wrGenParam; split <;> rfl
@[simp] theorem wrGenParam_stepNo (g : Gen) (v : Word) : (wrGenParam g v s).stepNo = s.stepNo := by
  unfold wrGenParam; split <;> rfl
@[simp] theorem wrGenParam_sched (g : Gen) (v : Word) : (wrGenParam g v s).sched = s.sched := by
  unfold wrGenParam; split <;> rfl
@[simp] theorem wrGenParam_hostQ (g : Gen) (v : Word) : (wrGenParam g v s).hostQ = s.hostQ := by
  unfold wrGenParam; split <;> rfl
@[simp] theorem wrGenParam_resp (g : Gen) (v : Word) : (wrGenParam g v s).resp = s.resp := by
  unfold wrGenParam; split <;> rfl

/-! ### wrPixTxf: what it leaves alone -/

@[simp] theorem wrPixTxf_params (v : Word) : (wrPixTxf v s).params = s.params := by
  unfold wrPixTxf; split <;> rfl
@[simp] theorem wrPixTxf_ch0 (v : Word) : (wrPixTxf v s).ch0 = s.ch0 := by
  unfold wrPixTxf; split <;> rfl
@[simp] theorem wrPixTxf_ch1 (v : Word) : (wrPixTxf v s).ch1 = s.ch1 := by
  unfold wrPixTxf; split <;> rfl
@[simp] theorem wrPixTxf_ch2 (v : Word) : (wrPixTxf v s).ch2 = s.ch2 := by
  unfold wrPixTxf; split <;> rfl
@[simp] theorem wrPixTxf_resClaim (v : Word) : (wrPixTxf v s).resClaim = s.resClaim := by
  unfold wrPixTxf; split <;> rfl
@[simp] theorem wrPixTxf_genEnable (v : Word) : (wrPixTxf v s).genEnable = s.genEnable := by
  unfold wrPixTxf; split <;> rfl
@[simp] theorem wrPixTxf_genH (v : Word) : (wrPixTxf v s).genH = s.genH := by
  unfold wrPixTxf; split <;> rfl
@[simp] theorem wrPixTxf_genV (v : Word) : (wrPixTxf v s).genV = s.genV := by
  unfold wrPixTxf; split <;> rfl
@[simp] theorem wrPixTxf_genP (v : Word) : (wrPixTxf v s).genP = s.genP := by
  unfold wrPixTxf; split <;> rfl
@[simp] theorem wrPixTxf_paramOver (v : Word) : (wrPixTxf v s).paramOver = s.paramOver := by
  unfold wrPixTxf; split <;> rfl
@[simp] theorem wrPixTxf_noprogErr (v : Word) : (wrPixTxf v s).noprogErr = s.noprogErr := by
  unfold wrPixTxf; split <;> rfl
@[simp] theorem wrPixTxf_imemUsed (v : Word) : (wrPixTxf v s).imemUsed = s.imemUsed := by
  unfold wrPixTxf; split <;> rfl
@[simp] theorem wrPixTxf_seqFbBase (v : Word) : (wrPixTxf v s).seqFbBase = s.seqFbBase := by
  unfold wrPixTxf; split <;> rfl
@[simp] theorem wrPixTxf_seqFbLen (v : Word) : (wrPixTxf v s).seqFbLen = s.seqFbLen := by
  unfold wrPixTxf; split <;> rfl
@[simp] theorem wrPixTxf_seqPtrAddr (v : Word) : (wrPixTxf v s).seqPtrAddr = s.seqPtrAddr := by
  unfold wrPixTxf; split <;> rfl
@[simp] theorem wrPixTxf_seqParamH (v : Word) : (wrPixTxf v s).seqParamH = s.seqParamH := by
  unfold wrPixTxf; split <;> rfl
@[simp] theorem wrPixTxf_seqParamV (v : Word) : (wrPixTxf v s).seqParamV = s.seqParamV := by
  unfold wrPixTxf; split <;> rfl
@[simp] theorem wrPixTxf_seqParamP (v : Word) : (wrPixTxf v s).seqParamP = s.seqParamP := by
  unfold wrPixTxf; split <;> rfl
@[simp] theorem wrPixTxf_seqPins (v : Word) : (wrPixTxf v s).seqPins = s.seqPins := by
  unfold wrPixTxf; split <;> rfl
@[simp] theorem wrPixTxf_seqState (v : Word) : (wrPixTxf v s).seqState = s.seqState := by
  unfold wrPixTxf; split <;> rfl
@[simp] theorem wrPixTxf_failCode (v : Word) : (wrPixTxf v s).failCode = s.failCode := by
  unfold wrPixTxf; split <;> rfl
@[simp] theorem wrPixTxf_doubleStart (v : Word) : (wrPixTxf v s).doubleStart = s.doubleStart := by
  unfold wrPixTxf; split <;> rfl
@[simp] theorem wrPixTxf_mem (v : Word) : (wrPixTxf v s).mem = s.mem := by
  unfold wrPixTxf; split <;> rfl
@[simp] theorem wrPixTxf_pixOut (v : Word) : (wrPixTxf v s).pixOut = s.pixOut := by
  unfold wrPixTxf; split <;> rfl
@[simp] theorem wrPixTxf_faults (v : Word) : (wrPixTxf v s).faults = s.faults := by
  unfold wrPixTxf; split <;> rfl
@[simp] theorem wrPixTxf_stepNo (v : Word) : (wrPixTxf v s).stepNo = s.stepNo := by
  unfold wrPixTxf; split <;> rfl
@[simp] theorem wrPixTxf_sched (v : Word) : (wrPixTxf v s).sched = s.sched := by
  unfold wrPixTxf; split <;> rfl
@[simp] theorem wrPixTxf_hostQ (v : Word) : (wrPixTxf v s).hostQ = s.hostQ := by
  unfold wrPixTxf; split <;> rfl
@[simp] theorem wrPixTxf_resp (v : Word) : (wrPixTxf v s).resp = s.resp := by
  unfold wrPixTxf; split <;> rfl

/-! ### wrImemUsed: what it leaves alone -/

@[simp] theorem wrImemUsed_params (v : Word) : (wrImemUsed v s).params = s.params := by
  unfold wrImemUsed; split <;> rfl
@[simp] theorem wrImemUsed_ch0 (v : Word) : (wrImemUsed v s).ch0 = s.ch0 := by
  unfold wrImemUsed; split <;> rfl
@[simp] theorem wrImemUsed_ch1 (v : Word) : (wrImemUsed v s).ch1 = s.ch1 := by
  unfold wrImemUsed; split <;> rfl
@[simp] theorem wrImemUsed_ch2 (v : Word) : (wrImemUsed v s).ch2 = s.ch2 := by
  unfold wrImemUsed; split <;> rfl
@[simp] theorem wrImemUsed_resClaim (v : Word) : (wrImemUsed v s).resClaim = s.resClaim := by
  unfold wrImemUsed; split <;> rfl
@[simp] theorem wrImemUsed_genEnable (v : Word) : (wrImemUsed v s).genEnable = s.genEnable := by
  unfold wrImemUsed; split <;> rfl
@[simp] theorem wrImemUsed_genH (v : Word) : (wrImemUsed v s).genH = s.genH := by
  unfold wrImemUsed; split <;> rfl
@[simp] theorem wrImemUsed_genV (v : Word) : (wrImemUsed v s).genV = s.genV := by
  unfold wrImemUsed; split <;> rfl
@[simp] theorem wrImemUsed_genP (v : Word) : (wrImemUsed v s).genP = s.genP := by
  unfold wrImemUsed; split <;> rfl
@[simp] theorem wrImemUsed_pixQ (v : Word) : (wrImemUsed v s).pixQ = s.pixQ := by
  unfold wrImemUsed; split <;> rfl
@[simp] theorem wrImemUsed_pixTxOver (v : Word) : (wrImemUsed v s).pixTxOver = s.pixTxOver := by
  unfold wrImemUsed; split <;> rfl
@[simp] theorem wrImemUsed_paramOver (v : Word) : (wrImemUsed v s).paramOver = s.paramOver := by
  unfold wrImemUsed; split <;> rfl
@[simp] theorem wrImemUsed_noprogErr (v : Word) : (wrImemUsed v s).noprogErr = s.noprogErr := by
  unfold wrImemUsed; split <;> rfl
@[simp] theorem wrImemUsed_seqFbBase (v : Word) : (wrImemUsed v s).seqFbBase = s.seqFbBase := by
  unfold wrImemUsed; split <;> rfl
@[simp] theorem wrImemUsed_seqFbLen (v : Word) : (wrImemUsed v s).seqFbLen = s.seqFbLen := by
  unfold wrImemUsed; split <;> rfl
@[simp] theorem wrImemUsed_seqPtrAddr (v : Word) : (wrImemUsed v s).seqPtrAddr = s.seqPtrAddr := by
  unfold wrImemUsed; split <;> rfl
@[simp] theorem wrImemUsed_seqParamH (v : Word) : (wrImemUsed v s).seqParamH = s.seqParamH := by
  unfold wrImemUsed; split <;> rfl
@[simp] theorem wrImemUsed_seqParamV (v : Word) : (wrImemUsed v s).seqParamV = s.seqParamV := by
  unfold wrImemUsed; split <;> rfl
@[simp] theorem wrImemUsed_seqParamP (v : Word) : (wrImemUsed v s).seqParamP = s.seqParamP := by
  unfold wrImemUsed; split <;> rfl
@[simp] theorem wrImemUsed_seqPins (v : Word) : (wrImemUsed v s).seqPins = s.seqPins := by
  unfold wrImemUsed; split <;> rfl
@[simp] theorem wrImemUsed_seqState (v : Word) : (wrImemUsed v s).seqState = s.seqState := by
  unfold wrImemUsed; split <;> rfl
@[simp] theorem wrImemUsed_failCode (v : Word) : (wrImemUsed v s).failCode = s.failCode := by
  unfold wrImemUsed; split <;> rfl
@[simp] theorem wrImemUsed_doubleStart (v : Word) : (wrImemUsed v s).doubleStart = s.doubleStart := by
  unfold wrImemUsed; split <;> rfl
@[simp] theorem wrImemUsed_mem (v : Word) : (wrImemUsed v s).mem = s.mem := by
  unfold wrImemUsed; split <;> rfl
@[simp] theorem wrImemUsed_pixOut (v : Word) : (wrImemUsed v s).pixOut = s.pixOut := by
  unfold wrImemUsed; split <;> rfl
@[simp] theorem wrImemUsed_faults (v : Word) : (wrImemUsed v s).faults = s.faults := by
  unfold wrImemUsed; split <;> rfl
@[simp] theorem wrImemUsed_stepNo (v : Word) : (wrImemUsed v s).stepNo = s.stepNo := by
  unfold wrImemUsed; split <;> rfl
@[simp] theorem wrImemUsed_sched (v : Word) : (wrImemUsed v s).sched = s.sched := by
  unfold wrImemUsed; split <;> rfl
@[simp] theorem wrImemUsed_hostQ (v : Word) : (wrImemUsed v s).hostQ = s.hostQ := by
  unfold wrImemUsed; split <;> rfl
@[simp] theorem wrImemUsed_resp (v : Word) : (wrImemUsed v s).resp = s.resp := by
  unfold wrImemUsed; split <;> rfl

/-! ### wrSeqCfg: what it leaves alone -/

@[simp] theorem wrSeqCfg_params (r : SeqCfg) (v : Word) : (wrSeqCfg r v s).params = s.params := by
  unfold wrSeqCfg; split <;> cases r <;> rfl
@[simp] theorem wrSeqCfg_ch0 (r : SeqCfg) (v : Word) : (wrSeqCfg r v s).ch0 = s.ch0 := by
  unfold wrSeqCfg; split <;> cases r <;> rfl
@[simp] theorem wrSeqCfg_ch1 (r : SeqCfg) (v : Word) : (wrSeqCfg r v s).ch1 = s.ch1 := by
  unfold wrSeqCfg; split <;> cases r <;> rfl
@[simp] theorem wrSeqCfg_ch2 (r : SeqCfg) (v : Word) : (wrSeqCfg r v s).ch2 = s.ch2 := by
  unfold wrSeqCfg; split <;> cases r <;> rfl
@[simp] theorem wrSeqCfg_resClaim (r : SeqCfg) (v : Word) : (wrSeqCfg r v s).resClaim = s.resClaim := by
  unfold wrSeqCfg; split <;> cases r <;> rfl
@[simp] theorem wrSeqCfg_genEnable (r : SeqCfg) (v : Word) : (wrSeqCfg r v s).genEnable = s.genEnable := by
  unfold wrSeqCfg; split <;> cases r <;> rfl
@[simp] theorem wrSeqCfg_genH (r : SeqCfg) (v : Word) : (wrSeqCfg r v s).genH = s.genH := by
  unfold wrSeqCfg; split <;> cases r <;> rfl
@[simp] theorem wrSeqCfg_genV (r : SeqCfg) (v : Word) : (wrSeqCfg r v s).genV = s.genV := by
  unfold wrSeqCfg; split <;> cases r <;> rfl
@[simp] theorem wrSeqCfg_genP (r : SeqCfg) (v : Word) : (wrSeqCfg r v s).genP = s.genP := by
  unfold wrSeqCfg; split <;> cases r <;> rfl
@[simp] theorem wrSeqCfg_pixQ (r : SeqCfg) (v : Word) : (wrSeqCfg r v s).pixQ = s.pixQ := by
  unfold wrSeqCfg; split <;> cases r <;> rfl
@[simp] theorem wrSeqCfg_pixTxOver (r : SeqCfg) (v : Word) : (wrSeqCfg r v s).pixTxOver = s.pixTxOver := by
  unfold wrSeqCfg; split <;> cases r <;> rfl
@[simp] theorem wrSeqCfg_paramOver (r : SeqCfg) (v : Word) : (wrSeqCfg r v s).paramOver = s.paramOver := by
  unfold wrSeqCfg; split <;> cases r <;> rfl
@[simp] theorem wrSeqCfg_noprogErr (r : SeqCfg) (v : Word) : (wrSeqCfg r v s).noprogErr = s.noprogErr := by
  unfold wrSeqCfg; split <;> cases r <;> rfl
@[simp] theorem wrSeqCfg_imemUsed (r : SeqCfg) (v : Word) : (wrSeqCfg r v s).imemUsed = s.imemUsed := by
  unfold wrSeqCfg; split <;> cases r <;> rfl
@[simp] theorem wrSeqCfg_seqState (r : SeqCfg) (v : Word) : (wrSeqCfg r v s).seqState = s.seqState := by
  unfold wrSeqCfg; split <;> cases r <;> rfl
@[simp] theorem wrSeqCfg_failCode (r : SeqCfg) (v : Word) : (wrSeqCfg r v s).failCode = s.failCode := by
  unfold wrSeqCfg; split <;> cases r <;> rfl
@[simp] theorem wrSeqCfg_doubleStart (r : SeqCfg) (v : Word) : (wrSeqCfg r v s).doubleStart = s.doubleStart := by
  unfold wrSeqCfg; split <;> cases r <;> rfl
@[simp] theorem wrSeqCfg_mem (r : SeqCfg) (v : Word) : (wrSeqCfg r v s).mem = s.mem := by
  unfold wrSeqCfg; split <;> cases r <;> rfl
@[simp] theorem wrSeqCfg_pixOut (r : SeqCfg) (v : Word) : (wrSeqCfg r v s).pixOut = s.pixOut := by
  unfold wrSeqCfg; split <;> cases r <;> rfl
@[simp] theorem wrSeqCfg_faults (r : SeqCfg) (v : Word) : (wrSeqCfg r v s).faults = s.faults := by
  unfold wrSeqCfg; split <;> cases r <;> rfl
@[simp] theorem wrSeqCfg_stepNo (r : SeqCfg) (v : Word) : (wrSeqCfg r v s).stepNo = s.stepNo := by
  unfold wrSeqCfg; split <;> cases r <;> rfl
@[simp] theorem wrSeqCfg_sched (r : SeqCfg) (v : Word) : (wrSeqCfg r v s).sched = s.sched := by
  unfold wrSeqCfg; split <;> cases r <;> rfl
@[simp] theorem wrSeqCfg_hostQ (r : SeqCfg) (v : Word) : (wrSeqCfg r v s).hostQ = s.hostQ := by
  unfold wrSeqCfg; split <;> cases r <;> rfl
@[simp] theorem wrSeqCfg_resp (r : SeqCfg) (v : Word) : (wrSeqCfg r v s).resp = s.resp := by
  unfold wrSeqCfg; split <;> cases r <;> rfl

/-! ### wrSeqCtrl: what it leaves alone -/

@[simp] theorem wrSeqCtrl_params (v : Word) : (wrSeqCtrl v s).params = s.params := by
  unfold wrSeqCtrl; split <;> [split <;> rfl; rfl]
@[simp] theorem wrSeqCtrl_ch0 (v : Word) : (wrSeqCtrl v s).ch0 = s.ch0 := by
  unfold wrSeqCtrl; split <;> [split <;> rfl; rfl]
@[simp] theorem wrSeqCtrl_ch1 (v : Word) : (wrSeqCtrl v s).ch1 = s.ch1 := by
  unfold wrSeqCtrl; split <;> [split <;> rfl; rfl]
@[simp] theorem wrSeqCtrl_ch2 (v : Word) : (wrSeqCtrl v s).ch2 = s.ch2 := by
  unfold wrSeqCtrl; split <;> [split <;> rfl; rfl]
@[simp] theorem wrSeqCtrl_resClaim (v : Word) : (wrSeqCtrl v s).resClaim = s.resClaim := by
  unfold wrSeqCtrl; split <;> [split <;> rfl; rfl]
@[simp] theorem wrSeqCtrl_genEnable (v : Word) : (wrSeqCtrl v s).genEnable = s.genEnable := by
  unfold wrSeqCtrl; split <;> [split <;> rfl; rfl]
@[simp] theorem wrSeqCtrl_genH (v : Word) : (wrSeqCtrl v s).genH = s.genH := by
  unfold wrSeqCtrl; split <;> [split <;> rfl; rfl]
@[simp] theorem wrSeqCtrl_genV (v : Word) : (wrSeqCtrl v s).genV = s.genV := by
  unfold wrSeqCtrl; split <;> [split <;> rfl; rfl]
@[simp] theorem wrSeqCtrl_genP (v : Word) : (wrSeqCtrl v s).genP = s.genP := by
  unfold wrSeqCtrl; split <;> [split <;> rfl; rfl]
@[simp] theorem wrSeqCtrl_pixQ (v : Word) : (wrSeqCtrl v s).pixQ = s.pixQ := by
  unfold wrSeqCtrl; split <;> [split <;> rfl; rfl]
@[simp] theorem wrSeqCtrl_pixTxOver (v : Word) : (wrSeqCtrl v s).pixTxOver = s.pixTxOver := by
  unfold wrSeqCtrl; split <;> [split <;> rfl; rfl]
@[simp] theorem wrSeqCtrl_paramOver (v : Word) : (wrSeqCtrl v s).paramOver = s.paramOver := by
  unfold wrSeqCtrl; split <;> [split <;> rfl; rfl]
@[simp] theorem wrSeqCtrl_noprogErr (v : Word) : (wrSeqCtrl v s).noprogErr = s.noprogErr := by
  unfold wrSeqCtrl; split <;> [split <;> rfl; rfl]
@[simp] theorem wrSeqCtrl_imemUsed (v : Word) : (wrSeqCtrl v s).imemUsed = s.imemUsed := by
  unfold wrSeqCtrl; split <;> [split <;> rfl; rfl]
@[simp] theorem wrSeqCtrl_seqFbBase (v : Word) : (wrSeqCtrl v s).seqFbBase = s.seqFbBase := by
  unfold wrSeqCtrl; split <;> [split <;> rfl; rfl]
@[simp] theorem wrSeqCtrl_seqFbLen (v : Word) : (wrSeqCtrl v s).seqFbLen = s.seqFbLen := by
  unfold wrSeqCtrl; split <;> [split <;> rfl; rfl]
@[simp] theorem wrSeqCtrl_seqPtrAddr (v : Word) : (wrSeqCtrl v s).seqPtrAddr = s.seqPtrAddr := by
  unfold wrSeqCtrl; split <;> [split <;> rfl; rfl]
@[simp] theorem wrSeqCtrl_seqParamH (v : Word) : (wrSeqCtrl v s).seqParamH = s.seqParamH := by
  unfold wrSeqCtrl; split <;> [split <;> rfl; rfl]
@[simp] theorem wrSeqCtrl_seqParamV (v : Word) : (wrSeqCtrl v s).seqParamV = s.seqParamV := by
  unfold wrSeqCtrl; split <;> [split <;> rfl; rfl]
@[simp] theorem wrSeqCtrl_seqParamP (v : Word) : (wrSeqCtrl v s).seqParamP = s.seqParamP := by
  unfold wrSeqCtrl; split <;> [split <;> rfl; rfl]
@[simp] theorem wrSeqCtrl_seqPins (v : Word) : (wrSeqCtrl v s).seqPins = s.seqPins := by
  unfold wrSeqCtrl; split <;> [split <;> rfl; rfl]
@[simp] theorem wrSeqCtrl_failCode (v : Word) : (wrSeqCtrl v s).failCode = s.failCode := by
  unfold wrSeqCtrl; split <;> [split <;> rfl; rfl]
@[simp] theorem wrSeqCtrl_mem (v : Word) : (wrSeqCtrl v s).mem = s.mem := by
  unfold wrSeqCtrl; split <;> [split <;> rfl; rfl]
@[simp] theorem wrSeqCtrl_pixOut (v : Word) : (wrSeqCtrl v s).pixOut = s.pixOut := by
  unfold wrSeqCtrl; split <;> [split <;> rfl; rfl]
@[simp] theorem wrSeqCtrl_stepNo (v : Word) : (wrSeqCtrl v s).stepNo = s.stepNo := by
  unfold wrSeqCtrl; split <;> [split <;> rfl; rfl]
@[simp] theorem wrSeqCtrl_sched (v : Word) : (wrSeqCtrl v s).sched = s.sched := by
  unfold wrSeqCtrl; split <;> [split <;> rfl; rfl]
@[simp] theorem wrSeqCtrl_hostQ (v : Word) : (wrSeqCtrl v s).hostQ = s.hostQ := by
  unfold wrSeqCtrl; split <;> [split <;> rfl; rfl]
@[simp] theorem wrSeqCtrl_resp (v : Word) : (wrSeqCtrl v s).resp = s.resp := by
  unfold wrSeqCtrl; split <;> [split <;> rfl; rfl]

/-! ### wrChReadAddr: what it leaves alone -/

@[simp] theorem wrChReadAddr_params (n : Chan) (v : Word) : (wrChReadAddr n v s).params = s.params := rfl
@[simp] theorem wrChReadAddr_resClaim (n : Chan) (v : Word) : (wrChReadAddr n v s).resClaim = s.resClaim := rfl
@[simp] theorem wrChReadAddr_genEnable (n : Chan) (v : Word) : (wrChReadAddr n v s).genEnable = s.genEnable := rfl
@[simp] theorem wrChReadAddr_genH (n : Chan) (v : Word) : (wrChReadAddr n v s).genH = s.genH := rfl
@[simp] theorem wrChReadAddr_genV (n : Chan) (v : Word) : (wrChReadAddr n v s).genV = s.genV := rfl
@[simp] theorem wrChReadAddr_genP (n : Chan) (v : Word) : (wrChReadAddr n v s).genP = s.genP := rfl
@[simp] theorem wrChReadAddr_pixQ (n : Chan) (v : Word) : (wrChReadAddr n v s).pixQ = s.pixQ := rfl
@[simp] theorem wrChReadAddr_pixTxOver (n : Chan) (v : Word) : (wrChReadAddr n v s).pixTxOver = s.pixTxOver := rfl
@[simp] theorem wrChReadAddr_paramOver (n : Chan) (v : Word) : (wrChReadAddr n v s).paramOver = s.paramOver := rfl
@[simp] theorem wrChReadAddr_noprogErr (n : Chan) (v : Word) : (wrChReadAddr n v s).noprogErr = s.noprogErr := rfl
@[simp] theorem wrChReadAddr_imemUsed (n : Chan) (v : Word) : (wrChReadAddr n v s).imemUsed = s.imemUsed := rfl
@[simp] theorem wrChReadAddr_seqFbBase (n : Chan) (v : Word) : (wrChReadAddr n v s).seqFbBase = s.seqFbBase := rfl
@[simp] theorem wrChReadAddr_seqFbLen (n : Chan) (v : Word) : (wrChReadAddr n v s).seqFbLen = s.seqFbLen := rfl
@[simp] theorem wrChReadAddr_seqPtrAddr (n : Chan) (v : Word) : (wrChReadAddr n v s).seqPtrAddr = s.seqPtrAddr := rfl
@[simp] theorem wrChReadAddr_seqParamH (n : Chan) (v : Word) : (wrChReadAddr n v s).seqParamH = s.seqParamH := rfl
@[simp] theorem wrChReadAddr_seqParamV (n : Chan) (v : Word) : (wrChReadAddr n v s).seqParamV = s.seqParamV := rfl
@[simp] theorem wrChReadAddr_seqParamP (n : Chan) (v : Word) : (wrChReadAddr n v s).seqParamP = s.seqParamP := rfl
@[simp] theorem wrChReadAddr_seqPins (n : Chan) (v : Word) : (wrChReadAddr n v s).seqPins = s.seqPins := rfl
@[simp] theorem wrChReadAddr_seqState (n : Chan) (v : Word) : (wrChReadAddr n v s).seqState = s.seqState := rfl
@[simp] theorem wrChReadAddr_failCode (n : Chan) (v : Word) : (wrChReadAddr n v s).failCode = s.failCode := rfl
@[simp] theorem wrChReadAddr_doubleStart (n : Chan) (v : Word) : (wrChReadAddr n v s).doubleStart = s.doubleStart := rfl
@[simp] theorem wrChReadAddr_mem (n : Chan) (v : Word) : (wrChReadAddr n v s).mem = s.mem := rfl
@[simp] theorem wrChReadAddr_pixOut (n : Chan) (v : Word) : (wrChReadAddr n v s).pixOut = s.pixOut := rfl
@[simp] theorem wrChReadAddr_faults (n : Chan) (v : Word) : (wrChReadAddr n v s).faults = s.faults := rfl
@[simp] theorem wrChReadAddr_stepNo (n : Chan) (v : Word) : (wrChReadAddr n v s).stepNo = s.stepNo := rfl
@[simp] theorem wrChReadAddr_sched (n : Chan) (v : Word) : (wrChReadAddr n v s).sched = s.sched := rfl
@[simp] theorem wrChReadAddr_hostQ (n : Chan) (v : Word) : (wrChReadAddr n v s).hostQ = s.hostQ := rfl
@[simp] theorem wrChReadAddr_resp (n : Chan) (v : Word) : (wrChReadAddr n v s).resp = s.resp := rfl

@[simp] theorem wrChReadAddr_ch_same (n : Chan) (v : Word) :
    (wrChReadAddr n v s).ch n = { s.ch n with readAddr := v } := State.setCh_ch_same s n _

theorem wrChReadAddr_ch_of_ne {n m : Chan} (v : Word) (h : m ≠ n) : (wrChReadAddr n v s).ch m = s.ch m :=
  State.setCh_ch_of_ne s _ h

/-! ### wrChWriteAddr: what it leaves alone -/

@[simp] theorem wrChWriteAddr_params (n : Chan) (v : Word) : (wrChWriteAddr n v s).params = s.params := rfl
@[simp] theorem wrChWriteAddr_resClaim (n : Chan) (v : Word) : (wrChWriteAddr n v s).resClaim = s.resClaim := rfl
@[simp] theorem wrChWriteAddr_genEnable (n : Chan) (v : Word) : (wrChWriteAddr n v s).genEnable = s.genEnable := rfl
@[simp] theorem wrChWriteAddr_genH (n : Chan) (v : Word) : (wrChWriteAddr n v s).genH = s.genH := rfl
@[simp] theorem wrChWriteAddr_genV (n : Chan) (v : Word) : (wrChWriteAddr n v s).genV = s.genV := rfl
@[simp] theorem wrChWriteAddr_genP (n : Chan) (v : Word) : (wrChWriteAddr n v s).genP = s.genP := rfl
@[simp] theorem wrChWriteAddr_pixQ (n : Chan) (v : Word) : (wrChWriteAddr n v s).pixQ = s.pixQ := rfl
@[simp] theorem wrChWriteAddr_pixTxOver (n : Chan) (v : Word) : (wrChWriteAddr n v s).pixTxOver = s.pixTxOver := rfl
@[simp] theorem wrChWriteAddr_paramOver (n : Chan) (v : Word) : (wrChWriteAddr n v s).paramOver = s.paramOver := rfl
@[simp] theorem wrChWriteAddr_noprogErr (n : Chan) (v : Word) : (wrChWriteAddr n v s).noprogErr = s.noprogErr := rfl
@[simp] theorem wrChWriteAddr_imemUsed (n : Chan) (v : Word) : (wrChWriteAddr n v s).imemUsed = s.imemUsed := rfl
@[simp] theorem wrChWriteAddr_seqFbBase (n : Chan) (v : Word) : (wrChWriteAddr n v s).seqFbBase = s.seqFbBase := rfl
@[simp] theorem wrChWriteAddr_seqFbLen (n : Chan) (v : Word) : (wrChWriteAddr n v s).seqFbLen = s.seqFbLen := rfl
@[simp] theorem wrChWriteAddr_seqPtrAddr (n : Chan) (v : Word) : (wrChWriteAddr n v s).seqPtrAddr = s.seqPtrAddr := rfl
@[simp] theorem wrChWriteAddr_seqParamH (n : Chan) (v : Word) : (wrChWriteAddr n v s).seqParamH = s.seqParamH := rfl
@[simp] theorem wrChWriteAddr_seqParamV (n : Chan) (v : Word) : (wrChWriteAddr n v s).seqParamV = s.seqParamV := rfl
@[simp] theorem wrChWriteAddr_seqParamP (n : Chan) (v : Word) : (wrChWriteAddr n v s).seqParamP = s.seqParamP := rfl
@[simp] theorem wrChWriteAddr_seqPins (n : Chan) (v : Word) : (wrChWriteAddr n v s).seqPins = s.seqPins := rfl
@[simp] theorem wrChWriteAddr_seqState (n : Chan) (v : Word) : (wrChWriteAddr n v s).seqState = s.seqState := rfl
@[simp] theorem wrChWriteAddr_failCode (n : Chan) (v : Word) : (wrChWriteAddr n v s).failCode = s.failCode := rfl
@[simp] theorem wrChWriteAddr_doubleStart (n : Chan) (v : Word) : (wrChWriteAddr n v s).doubleStart = s.doubleStart := rfl
@[simp] theorem wrChWriteAddr_mem (n : Chan) (v : Word) : (wrChWriteAddr n v s).mem = s.mem := rfl
@[simp] theorem wrChWriteAddr_pixOut (n : Chan) (v : Word) : (wrChWriteAddr n v s).pixOut = s.pixOut := rfl
@[simp] theorem wrChWriteAddr_faults (n : Chan) (v : Word) : (wrChWriteAddr n v s).faults = s.faults := rfl
@[simp] theorem wrChWriteAddr_stepNo (n : Chan) (v : Word) : (wrChWriteAddr n v s).stepNo = s.stepNo := rfl
@[simp] theorem wrChWriteAddr_sched (n : Chan) (v : Word) : (wrChWriteAddr n v s).sched = s.sched := rfl
@[simp] theorem wrChWriteAddr_hostQ (n : Chan) (v : Word) : (wrChWriteAddr n v s).hostQ = s.hostQ := rfl
@[simp] theorem wrChWriteAddr_resp (n : Chan) (v : Word) : (wrChWriteAddr n v s).resp = s.resp := rfl

@[simp] theorem wrChWriteAddr_ch_same (n : Chan) (v : Word) :
    (wrChWriteAddr n v s).ch n = { s.ch n with writeAddr := v } := State.setCh_ch_same s n _

theorem wrChWriteAddr_ch_of_ne {n m : Chan} (v : Word) (h : m ≠ n) : (wrChWriteAddr n v s).ch m = s.ch m :=
  State.setCh_ch_of_ne s _ h

/-! ### wrChTransCount: what it leaves alone -/

@[simp] theorem wrChTransCount_params (n : Chan) (v : Word) : (wrChTransCount n v s).params = s.params := rfl
@[simp] theorem wrChTransCount_resClaim (n : Chan) (v : Word) : (wrChTransCount n v s).resClaim = s.resClaim := rfl
@[simp] theorem wrChTransCount_genEnable (n : Chan) (v : Word) : (wrChTransCount n v s).genEnable = s.genEnable := rfl
@[simp] theorem wrChTransCount_genH (n : Chan) (v : Word) : (wrChTransCount n v s).genH = s.genH := rfl
@[simp] theorem wrChTransCount_genV (n : Chan) (v : Word) : (wrChTransCount n v s).genV = s.genV := rfl
@[simp] theorem wrChTransCount_genP (n : Chan) (v : Word) : (wrChTransCount n v s).genP = s.genP := rfl
@[simp] theorem wrChTransCount_pixQ (n : Chan) (v : Word) : (wrChTransCount n v s).pixQ = s.pixQ := rfl
@[simp] theorem wrChTransCount_pixTxOver (n : Chan) (v : Word) : (wrChTransCount n v s).pixTxOver = s.pixTxOver := rfl
@[simp] theorem wrChTransCount_paramOver (n : Chan) (v : Word) : (wrChTransCount n v s).paramOver = s.paramOver := rfl
@[simp] theorem wrChTransCount_noprogErr (n : Chan) (v : Word) : (wrChTransCount n v s).noprogErr = s.noprogErr := rfl
@[simp] theorem wrChTransCount_imemUsed (n : Chan) (v : Word) : (wrChTransCount n v s).imemUsed = s.imemUsed := rfl
@[simp] theorem wrChTransCount_seqFbBase (n : Chan) (v : Word) : (wrChTransCount n v s).seqFbBase = s.seqFbBase := rfl
@[simp] theorem wrChTransCount_seqFbLen (n : Chan) (v : Word) : (wrChTransCount n v s).seqFbLen = s.seqFbLen := rfl
@[simp] theorem wrChTransCount_seqPtrAddr (n : Chan) (v : Word) : (wrChTransCount n v s).seqPtrAddr = s.seqPtrAddr := rfl
@[simp] theorem wrChTransCount_seqParamH (n : Chan) (v : Word) : (wrChTransCount n v s).seqParamH = s.seqParamH := rfl
@[simp] theorem wrChTransCount_seqParamV (n : Chan) (v : Word) : (wrChTransCount n v s).seqParamV = s.seqParamV := rfl
@[simp] theorem wrChTransCount_seqParamP (n : Chan) (v : Word) : (wrChTransCount n v s).seqParamP = s.seqParamP := rfl
@[simp] theorem wrChTransCount_seqPins (n : Chan) (v : Word) : (wrChTransCount n v s).seqPins = s.seqPins := rfl
@[simp] theorem wrChTransCount_seqState (n : Chan) (v : Word) : (wrChTransCount n v s).seqState = s.seqState := rfl
@[simp] theorem wrChTransCount_failCode (n : Chan) (v : Word) : (wrChTransCount n v s).failCode = s.failCode := rfl
@[simp] theorem wrChTransCount_doubleStart (n : Chan) (v : Word) : (wrChTransCount n v s).doubleStart = s.doubleStart := rfl
@[simp] theorem wrChTransCount_mem (n : Chan) (v : Word) : (wrChTransCount n v s).mem = s.mem := rfl
@[simp] theorem wrChTransCount_pixOut (n : Chan) (v : Word) : (wrChTransCount n v s).pixOut = s.pixOut := rfl
@[simp] theorem wrChTransCount_faults (n : Chan) (v : Word) : (wrChTransCount n v s).faults = s.faults := rfl
@[simp] theorem wrChTransCount_stepNo (n : Chan) (v : Word) : (wrChTransCount n v s).stepNo = s.stepNo := rfl
@[simp] theorem wrChTransCount_sched (n : Chan) (v : Word) : (wrChTransCount n v s).sched = s.sched := rfl
@[simp] theorem wrChTransCount_hostQ (n : Chan) (v : Word) : (wrChTransCount n v s).hostQ = s.hostQ := rfl
@[simp] theorem wrChTransCount_resp (n : Chan) (v : Word) : (wrChTransCount n v s).resp = s.resp := rfl

@[simp] theorem wrChTransCount_ch_same (n : Chan) (v : Word) :
    (wrChTransCount n v s).ch n = { s.ch n with tcReload := v } := State.setCh_ch_same s n _

theorem wrChTransCount_ch_of_ne {n m : Chan} (v : Word) (h : m ≠ n) : (wrChTransCount n v s).ch m = s.ch m :=
  State.setCh_ch_of_ne s _ h

/-! ### wrChCtrl: what it leaves alone -/

@[simp] theorem wrChCtrl_params (n : Chan) (v : Word) : (wrChCtrl n v s).params = s.params := rfl
@[simp] theorem wrChCtrl_resClaim (n : Chan) (v : Word) : (wrChCtrl n v s).resClaim = s.resClaim := rfl
@[simp] theorem wrChCtrl_genEnable (n : Chan) (v : Word) : (wrChCtrl n v s).genEnable = s.genEnable := rfl
@[simp] theorem wrChCtrl_genH (n : Chan) (v : Word) : (wrChCtrl n v s).genH = s.genH := rfl
@[simp] theorem wrChCtrl_genV (n : Chan) (v : Word) : (wrChCtrl n v s).genV = s.genV := rfl
@[simp] theorem wrChCtrl_genP (n : Chan) (v : Word) : (wrChCtrl n v s).genP = s.genP := rfl
@[simp] theorem wrChCtrl_pixQ (n : Chan) (v : Word) : (wrChCtrl n v s).pixQ = s.pixQ := rfl
@[simp] theorem wrChCtrl_pixTxOver (n : Chan) (v : Word) : (wrChCtrl n v s).pixTxOver = s.pixTxOver := rfl
@[simp] theorem wrChCtrl_paramOver (n : Chan) (v : Word) : (wrChCtrl n v s).paramOver = s.paramOver := rfl
@[simp] theorem wrChCtrl_noprogErr (n : Chan) (v : Word) : (wrChCtrl n v s).noprogErr = s.noprogErr := rfl
@[simp] theorem wrChCtrl_imemUsed (n : Chan) (v : Word) : (wrChCtrl n v s).imemUsed = s.imemUsed := rfl
@[simp] theorem wrChCtrl_seqFbBase (n : Chan) (v : Word) : (wrChCtrl n v s).seqFbBase = s.seqFbBase := rfl
@[simp] theorem wrChCtrl_seqFbLen (n : Chan) (v : Word) : (wrChCtrl n v s).seqFbLen = s.seqFbLen := rfl
@[simp] theorem wrChCtrl_seqPtrAddr (n : Chan) (v : Word) : (wrChCtrl n v s).seqPtrAddr = s.seqPtrAddr := rfl
@[simp] theorem wrChCtrl_seqParamH (n : Chan) (v : Word) : (wrChCtrl n v s).seqParamH = s.seqParamH := rfl
@[simp] theorem wrChCtrl_seqParamV (n : Chan) (v : Word) : (wrChCtrl n v s).seqParamV = s.seqParamV := rfl
@[simp] theorem wrChCtrl_seqParamP (n : Chan) (v : Word) : (wrChCtrl n v s).seqParamP = s.seqParamP := rfl
@[simp] theorem wrChCtrl_seqPins (n : Chan) (v : Word) : (wrChCtrl n v s).seqPins = s.seqPins := rfl
@[simp] theorem wrChCtrl_seqState (n : Chan) (v : Word) : (wrChCtrl n v s).seqState = s.seqState := rfl
@[simp] theorem wrChCtrl_failCode (n : Chan) (v : Word) : (wrChCtrl n v s).failCode = s.failCode := rfl
@[simp] theorem wrChCtrl_doubleStart (n : Chan) (v : Word) : (wrChCtrl n v s).doubleStart = s.doubleStart := rfl
@[simp] theorem wrChCtrl_mem (n : Chan) (v : Word) : (wrChCtrl n v s).mem = s.mem := rfl
@[simp] theorem wrChCtrl_pixOut (n : Chan) (v : Word) : (wrChCtrl n v s).pixOut = s.pixOut := rfl
@[simp] theorem wrChCtrl_faults (n : Chan) (v : Word) : (wrChCtrl n v s).faults = s.faults := rfl
@[simp] theorem wrChCtrl_stepNo (n : Chan) (v : Word) : (wrChCtrl n v s).stepNo = s.stepNo := rfl
@[simp] theorem wrChCtrl_sched (n : Chan) (v : Word) : (wrChCtrl n v s).sched = s.sched := rfl
@[simp] theorem wrChCtrl_hostQ (n : Chan) (v : Word) : (wrChCtrl n v s).hostQ = s.hostQ := rfl
@[simp] theorem wrChCtrl_resp (n : Chan) (v : Word) : (wrChCtrl n v s).resp = s.resp := rfl

@[simp] theorem wrChCtrl_ch_same (n : Chan) (v : Word) :
    (wrChCtrl n v s).ch n = { s.ch n with ctrl := Ctrl.written (s.ch n).ctrl v } := State.modCtrl_ch_same s n _

theorem wrChCtrl_ch_of_ne {n m : Chan} (v : Word) (h : m ≠ n) : (wrChCtrl n v s).ch m = s.ch m :=
  State.setCh_ch_of_ne s _ h

/-! ### Any register write -/

@[simp] theorem regWrite_params (r : Reg) (v : Word) : (regWrite r v s).params = s.params := by
  cases r <;> simp [regWrite, wrStatus, wrResClaim, wrGenStatus, wrSeqStatus]
@[simp] theorem regWrite_mem (r : Reg) (v : Word) : (regWrite r v s).mem = s.mem := by
  cases r <;> simp [regWrite, wrStatus, wrResClaim, wrGenStatus, wrSeqStatus]
@[simp] theorem regWrite_pixOut (r : Reg) (v : Word) : (regWrite r v s).pixOut = s.pixOut := by
  cases r <;> simp [regWrite, wrStatus, wrResClaim, wrGenStatus, wrSeqStatus]
@[simp] theorem regWrite_stepNo (r : Reg) (v : Word) : (regWrite r v s).stepNo = s.stepNo := by
  cases r <;> simp [regWrite, wrStatus, wrResClaim, wrGenStatus, wrSeqStatus]
@[simp] theorem regWrite_sched (r : Reg) (v : Word) : (regWrite r v s).sched = s.sched := by
  cases r <;> simp [regWrite, wrStatus, wrResClaim, wrGenStatus, wrSeqStatus]
@[simp] theorem regWrite_hostQ (r : Reg) (v : Word) : (regWrite r v s).hostQ = s.hostQ := by
  cases r <;> simp [regWrite, wrStatus, wrResClaim, wrGenStatus, wrSeqStatus]
@[simp] theorem regWrite_resp (r : Reg) (v : Word) : (regWrite r v s).resp = s.resp := by
  cases r <;> simp [regWrite, wrStatus, wrResClaim, wrGenStatus, wrSeqStatus]
@[simp] theorem regWrite_failCode (r : Reg) (v : Word) : (regWrite r v s).failCode = s.failCode := by
  cases r <;> simp [regWrite, wrStatus, wrResClaim, wrGenStatus, wrSeqStatus]

/-- A decoded write either changes memory or performs one register write (20_memory.md R96). -/
theorem busWrite_cases {a : Addr} {sz : Size} {v : Word} {t : State} (h : busWrite a sz v s = some t) :
    (∃ r, inWindow s.params a = true ∧ legalReg? (windowOffset s.params a) sz true = some r ∧ t = regWrite r v s) ∨
    (inWindow s.params a = false ∧ allMapped s.params a sz = true ∧ t = memWrite a sz v s) := by
  unfold busWrite at h
  split at h
  · rename_i hw
    simp only [Option.map_eq_some_iff] at h
    obtain ⟨r, hr, rfl⟩ := h
    exact .inl ⟨r, hw, hr, rfl⟩
  · rename_i hw
    split at h
    · rename_i hm
      exact .inr ⟨by simpa using hw, hm, by simpa using h.symm⟩
    · exact absurd h (by simp)

/-- A decoded read gives a register's value or memory's (20_memory.md R96). -/
theorem busRead_cases {a : Addr} {sz : Size} {x : Word} (h : busRead a sz s = some x) :
    (∃ r, inWindow s.params a = true ∧ legalReg? (windowOffset s.params a) sz false = some r ∧ x = regRead r s) ∨
    (inWindow s.params a = false ∧ allMapped s.params a sz = true ∧ x = memRead a sz s) := by
  unfold busRead at h
  split at h
  · rename_i hw
    simp only [Option.map_eq_some_iff] at h
    obtain ⟨r, hr, rfl⟩ := h
    exact .inl ⟨r, hw, hr, rfl⟩
  · rename_i hw
    split at h
    · rename_i hm
      exact .inr ⟨by simpa using hw, hm, by simpa using h.symm⟩
    · exact absurd h (by simp)

end Sys2Proof.Machine
end

