-- ==== Sys2Proof/Laws/PerInstr.lean ====
section
/-! SUPPORT. A fact about every instruction as syntax, one lemma per constructor: the header its encoding has is legal
(30_encoding.md R121, R124). -/

namespace Sys2Proof.Laws

/-- A header is legal for a register: bit 14 is clear, SZ is not reserved, the offset is the register's, a read is a
word read, and only PIX_TXF has a narrow write (30_encoding.md R121, R124). -/
def headerLegalFor (hdr : BitVec 16) (r : Reg) : Bool :=
  !hdr.getLsbD 14 && decide (hdr.extractLsb' 12 2 ≠ 3#2) && decide (Reg.ofOffset? (hdr.extractLsb' 0 12) = some r) &&
  (decide (hdr.extractLsb' 12 2 = 2#2) || (hdr.getLsbD 15 && decide (r = .pixTxf)))

/-- The header of the instruction's encoding is legal for the register it accesses (30_encoding.md R121, R124). -/
def HeaderLegal.Statement (i : Instr) : Prop := headerLegalFor (encode i).hdr i.access.1 = true

/-- A word write of any register has a legal header. -/
theorem headerLegal_write (r : Reg) : headerLegalFor (mkHeader true .word r.offset) r = true := by
  cases r with
  | chReadAddr n => cases n <;> decide
  | chWriteAddr n => cases n <;> decide
  | chTransCount n => cases n <;> decide
  | chCtrl n => cases n <;> decide
  | genParam g => cases g <;> decide
  | seqCfg c => cases c <;> decide
  | _ => decide

/-- A read of any register has a legal header. -/
theorem headerLegal_read (r : Reg) : headerLegalFor (mkHeader false .word r.offset) r = true := by
  cases r with
  | chReadAddr n => cases n <;> decide
  | chWriteAddr n => cases n <;> decide
  | chTransCount n => cases n <;> decide
  | chCtrl n => cases n <;> decide
  | genParam g => cases g <;> decide
  | seqCfg c => cases c <;> decide
  | _ => decide

/-- A write of PIX_TXF of any size has a legal header. -/
theorem headerLegal_writePixTxf (sz : Size) : headerLegalFor (mkHeader true sz (Reg.offset .pixTxf)) .pixTxf = true := by
  cases sz <;> decide

theorem HeaderLegal.wrCh0ReadAddr (v : Word) : HeaderLegal.Statement (.wrCh0ReadAddr v) :=
  headerLegal_write (.chReadAddr .ch0)

theorem HeaderLegal.rdCh0ReadAddr : HeaderLegal.Statement .rdCh0ReadAddr :=
  headerLegal_read (.chReadAddr .ch0)

theorem HeaderLegal.wrCh0WriteAddr (v : Word) : HeaderLegal.Statement (.wrCh0WriteAddr v) :=
  headerLegal_write (.chWriteAddr .ch0)

theorem HeaderLegal.rdCh0WriteAddr : HeaderLegal.Statement .rdCh0WriteAddr :=
  headerLegal_read (.chWriteAddr .ch0)

theorem HeaderLegal.wrCh0TransCount (v : Word) : HeaderLegal.Statement (.wrCh0TransCount v) :=
  headerLegal_write (.chTransCount .ch0)

theorem HeaderLegal.rdCh0TransCount : HeaderLegal.Statement .rdCh0TransCount :=
  headerLegal_read (.chTransCount .ch0)

theorem HeaderLegal.wrCh0Ctrl (v : Word) : HeaderLegal.Statement (.wrCh0Ctrl v) :=
  headerLegal_write (.chCtrl .ch0)

theorem HeaderLegal.rdCh0Ctrl : HeaderLegal.Statement .rdCh0Ctrl :=
  headerLegal_read (.chCtrl .ch0)

theorem HeaderLegal.wrCh1ReadAddr (v : Word) : HeaderLegal.Statement (.wrCh1ReadAddr v) :=
  headerLegal_write (.chReadAddr .ch1)

theorem HeaderLegal.rdCh1ReadAddr : HeaderLegal.Statement .rdCh1ReadAddr :=
  headerLegal_read (.chReadAddr .ch1)

theorem HeaderLegal.wrCh1WriteAddr (v : Word) : HeaderLegal.Statement (.wrCh1WriteAddr v) :=
  headerLegal_write (.chWriteAddr .ch1)

theorem HeaderLegal.rdCh1WriteAddr : HeaderLegal.Statement .rdCh1WriteAddr :=
  headerLegal_read (.chWriteAddr .ch1)

theorem HeaderLegal.wrCh1TransCount (v : Word) : HeaderLegal.Statement (.wrCh1TransCount v) :=
  headerLegal_write (.chTransCount .ch1)

theorem HeaderLegal.rdCh1TransCount : HeaderLegal.Statement .rdCh1TransCount :=
  headerLegal_read (.chTransCount .ch1)

theorem HeaderLegal.wrCh1Ctrl (v : Word) : HeaderLegal.Statement (.wrCh1Ctrl v) :=
  headerLegal_write (.chCtrl .ch1)

theorem HeaderLegal.rdCh1Ctrl : HeaderLegal.Statement .rdCh1Ctrl :=
  headerLegal_read (.chCtrl .ch1)

theorem HeaderLegal.wrCh2ReadAddr (v : Word) : HeaderLegal.Statement (.wrCh2ReadAddr v) :=
  headerLegal_write (.chReadAddr .ch2)

theorem HeaderLegal.rdCh2ReadAddr : HeaderLegal.Statement .rdCh2ReadAddr :=
  headerLegal_read (.chReadAddr .ch2)

theorem HeaderLegal.wrCh2WriteAddr (v : Word) : HeaderLegal.Statement (.wrCh2WriteAddr v) :=
  headerLegal_write (.chWriteAddr .ch2)

theorem HeaderLegal.rdCh2WriteAddr : HeaderLegal.Statement .rdCh2WriteAddr :=
  headerLegal_read (.chWriteAddr .ch2)

theorem HeaderLegal.wrCh2TransCount (v : Word) : HeaderLegal.Statement (.wrCh2TransCount v) :=
  headerLegal_write (.chTransCount .ch2)

theorem HeaderLegal.rdCh2TransCount : HeaderLegal.Statement .rdCh2TransCount :=
  headerLegal_read (.chTransCount .ch2)

theorem HeaderLegal.wrCh2Ctrl (v : Word) : HeaderLegal.Statement (.wrCh2Ctrl v) :=
  headerLegal_write (.chCtrl .ch2)

theorem HeaderLegal.rdCh2Ctrl : HeaderLegal.Statement .rdCh2Ctrl :=
  headerLegal_read (.chCtrl .ch2)

theorem HeaderLegal.wrMultiTrig (v : Word) : HeaderLegal.Statement (.wrMultiTrig v) :=
  headerLegal_write .multiTrig

theorem HeaderLegal.rdMultiTrig : HeaderLegal.Statement .rdMultiTrig :=
  headerLegal_read .multiTrig

theorem HeaderLegal.wrStatus (v : Word) : HeaderLegal.Statement (.wrStatus v) :=
  headerLegal_write .status

theorem HeaderLegal.rdStatus : HeaderLegal.Statement .rdStatus :=
  headerLegal_read .status

theorem HeaderLegal.wrResClaim (v : Word) : HeaderLegal.Statement (.wrResClaim v) :=
  headerLegal_write .resClaim

theorem HeaderLegal.rdResClaim : HeaderLegal.Statement .rdResClaim :=
  headerLegal_read .resClaim

theorem HeaderLegal.wrGenEnable (v : Word) : HeaderLegal.Statement (.wrGenEnable v) :=
  headerLegal_write .genEnable

theorem HeaderLegal.rdGenEnable : HeaderLegal.Statement .rdGenEnable :=
  headerLegal_read .genEnable

theorem HeaderLegal.wrGenParamH (v : Word) : HeaderLegal.Statement (.wrGenParamH v) :=
  headerLegal_write (.genParam .h)

theorem HeaderLegal.rdGenParamH : HeaderLegal.Statement .rdGenParamH :=
  headerLegal_read (.genParam .h)

theorem HeaderLegal.wrGenParamV (v : Word) : HeaderLegal.Statement (.wrGenParamV v) :=
  headerLegal_write (.genParam .v)

theorem HeaderLegal.rdGenParamV : HeaderLegal.Statement .rdGenParamV :=
  headerLegal_read (.genParam .v)

theorem HeaderLegal.wrGenParamP (v : Word) : HeaderLegal.Statement (.wrGenParamP v) :=
  headerLegal_write (.genParam .p)

theorem HeaderLegal.rdGenParamP : HeaderLegal.Statement .rdGenParamP :=
  headerLegal_read (.genParam .p)

theorem HeaderLegal.wrPixTxfB (v : Word) : HeaderLegal.Statement (.wrPixTxfB v) :=
  headerLegal_writePixTxf .byte

theorem HeaderLegal.wrPixTxfH (v : Word) : HeaderLegal.Statement (.wrPixTxfH v) :=
  headerLegal_writePixTxf .half

theorem HeaderLegal.wrPixTxfW (v : Word) : HeaderLegal.Statement (.wrPixTxfW v) :=
  headerLegal_writePixTxf .word

theorem HeaderLegal.rdPixTxf : HeaderLegal.Statement .rdPixTxf :=
  headerLegal_read .pixTxf

theorem HeaderLegal.wrGenStatus (v : Word) : HeaderLegal.Statement (.wrGenStatus v) :=
  headerLegal_write .genStatus

theorem HeaderLegal.rdGenStatus : HeaderLegal.Statement .rdGenStatus :=
  headerLegal_read .genStatus

theorem HeaderLegal.wrImemUsed (v : Word) : HeaderLegal.Statement (.wrImemUsed v) :=
  headerLegal_write .imemUsed

theorem HeaderLegal.rdImemUsed : HeaderLegal.Statement .rdImemUsed :=
  headerLegal_read .imemUsed

theorem HeaderLegal.wrSeqFbBase (v : Word) : HeaderLegal.Statement (.wrSeqFbBase v) :=
  headerLegal_write (.seqCfg .fbBase)

theorem HeaderLegal.rdSeqFbBase : HeaderLegal.Statement .rdSeqFbBase :=
  headerLegal_read (.seqCfg .fbBase)

theorem HeaderLegal.wrSeqFbLen (v : Word) : HeaderLegal.Statement (.wrSeqFbLen v) :=
  headerLegal_write (.seqCfg .fbLen)

theorem HeaderLegal.rdSeqFbLen : HeaderLegal.Statement .rdSeqFbLen :=
  headerLegal_read (.seqCfg .fbLen)

theorem HeaderLegal.wrSeqPtrAddr (v : Word) : HeaderLegal.Statement (.wrSeqPtrAddr v) :=
  headerLegal_write (.seqCfg .ptrAddr)

theorem HeaderLegal.rdSeqPtrAddr : HeaderLegal.Statement .rdSeqPtrAddr :=
  headerLegal_read (.seqCfg .ptrAddr)

theorem HeaderLegal.wrSeqParamH (v : Word) : HeaderLegal.Statement (.wrSeqParamH v) :=
  headerLegal_write (.seqCfg .paramH)

theorem HeaderLegal.rdSeqParamH : HeaderLegal.Statement .rdSeqParamH :=
  headerLegal_read (.seqCfg .paramH)

theorem HeaderLegal.wrSeqParamV (v : Word) : HeaderLegal.Statement (.wrSeqParamV v) :=
  headerLegal_write (.seqCfg .paramV)

theorem HeaderLegal.rdSeqParamV : HeaderLegal.Statement .rdSeqParamV :=
  headerLegal_read (.seqCfg .paramV)

theorem HeaderLegal.wrSeqParamP (v : Word) : HeaderLegal.Statement (.wrSeqParamP v) :=
  headerLegal_write (.seqCfg .paramP)

theorem HeaderLegal.rdSeqParamP : HeaderLegal.Statement .rdSeqParamP :=
  headerLegal_read (.seqCfg .paramP)

theorem HeaderLegal.wrSeqPins (v : Word) : HeaderLegal.Statement (.wrSeqPins v) :=
  headerLegal_write (.seqCfg .pins)

theorem HeaderLegal.rdSeqPins : HeaderLegal.Statement .rdSeqPins :=
  headerLegal_read (.seqCfg .pins)

theorem HeaderLegal.wrSeqCtrl (v : Word) : HeaderLegal.Statement (.wrSeqCtrl v) :=
  headerLegal_write .seqCtrl

theorem HeaderLegal.rdSeqCtrl : HeaderLegal.Statement .rdSeqCtrl :=
  headerLegal_read .seqCtrl

theorem HeaderLegal.wrSeqStatus (v : Word) : HeaderLegal.Statement (.wrSeqStatus v) :=
  headerLegal_write .seqStatus

theorem HeaderLegal.rdSeqStatus : HeaderLegal.Statement .rdSeqStatus :=
  headerLegal_read .seqStatus

end Sys2Proof.Laws
end

