-- ==== Sys2Proof/Laws/Step.lean ====
section
/-! SUPPORT. What a step can do: whose turn it was, and what that turn can have done (20_memory.md R104, R105). -/

namespace Sys2Proof.Machine

variable {s t : State}

/-! ### Instructions -/

/-- A write instruction performs its register's write and is acknowledged (40_channel_registers.md R164, R165). -/
theorem exec_write {i : Instr} {r : Reg} {sz : Size} {v : Word} (h : i.access = (r, .write sz v)) (s : State) :
    exec i s = .next (acked (regWrite r v s)) := by
  cases i <;> simp only [Instr.access, Prod.mk.injEq, Access.write.injEq, reduceCtorEq, and_false] at h <;>
    (obtain ⟨rfl, rfl, rfl⟩ := h; rfl)

/-- A read instruction returns its register's value and changes nothing (20_memory.md R100). -/
theorem exec_read {i : Instr} {r : Reg} (h : i.access = (r, .read)) (s : State) :
    exec i s = .next (returned (regRead r s) s) := by
  cases i <;> simp only [Instr.access, Prod.mk.injEq, reduceCtorEq, and_false, and_true] at h <;> (subst h; rfl)

/-- Every instruction is a read or a write of one register, and completes (60_exceptions.md R330). -/
theorem exec_cases (i : Instr) (s : State) :
    (∃ r sz v, i.access = (r, .write sz v) ∧ exec i s = .next (acked (regWrite r v s))) ∨
    (∃ r, i.access = (r, .read) ∧ exec i s = .next (returned (regRead r s) s)) := by
  rcases h : i.access with ⟨r, _ | ⟨sz, v⟩⟩
  · exact .inr ⟨r, rfl, exec_read h s⟩
  · exact .inl ⟨r, sz, v, rfl, exec_write h s⟩

/-! ### The host's turn -/

/-- A transaction runs its instruction or is a host-access fault (30_encoding.md R130). -/
theorem hostBus_cases (x : Transaction) (s : State) :
    (∃ i, decode x = .ok i ∧ hostBus x s = exec i s) ∨
    (∃ k, decode x = .error k ∧ hostBus x s = .next (hostFault k (some x.hdr) s)) := by
  unfold hostBus
  cases h : decode x with
  | ok i => exact .inl ⟨i, rfl, rfl⟩
  | error k => exact .inr ⟨k, rfl, rfl⟩

/-- What a transaction can do to the state: a register write, a register read, or a host-access fault. -/
theorem hostBus_next {x : Transaction} (h : hostBus x s = .next t) :
    (∃ r v, t = acked (regWrite r v s)) ∨ (∃ r, t = returned (regRead r s) s) ∨
    (∃ k hdr, t = hostFault k hdr s) := by
  rcases hostBus_cases x s with ⟨i, _, hi⟩ | ⟨k, _, hk⟩
  · rw [hi] at h
    rcases exec_cases i s with ⟨r, sz, v, _, he⟩ | ⟨r, _, he⟩ <;> rw [he] at h <;> cases h
    · exact .inl ⟨r, v, rfl⟩
    · exact .inr (.inl ⟨r, rfl⟩)
  · rw [hk] at h; cases h
    exact .inr (.inr ⟨k, _, rfl⟩)

/-- What a host load or store outside the window can do: its access, if it is aligned and mapped, or a host-access fault
(20_memory.md R94, R97; 92_eei_decisions.md D6). -/
theorem hostMemory_cases (a : Addr) (sz : Size) (access : State → State) (s : State) :
    (aligned a sz = true ∧ allMapped s.params a sz = true ∧ hostMemory a sz access s = access s) ∨
    (∃ k, hostMemory a sz access s = hostFault k none s) := by
  unfold hostMemory
  split
  · exact .inr ⟨_, rfl⟩
  · rename_i ha
    split
    · rename_i hm; exact .inl ⟨by simpa using ha, hm, rfl⟩
    · exact .inr ⟨_, rfl⟩

/-- What one host access can do, besides leaving a polling loop in the list. -/
theorem hostOp_next {op : HostOp} (h : hostOp op s = .next t) :
    ∃ q, (t.hostQ = q) ∧
      ((∃ r v, t = { acked (regWrite r v s) with hostQ := q }) ∨
       (∃ x, t = { returned x s with hostQ := q }) ∨
       (∃ k hdr, t = { hostFault k hdr s with hostQ := q }) ∨
       (∃ a sz v, inWindow s.params a = false ∧ allMapped s.params a sz = true ∧
          t = { acked (memWrite a sz v s) with hostQ := q })) := by
  have viaBus : ∀ x u, hostBus x s = .next u →
      (∃ r v, u = acked (regWrite r v s)) ∨ (∃ y, u = returned y s) ∨ (∃ k hdr, u = hostFault k hdr s) := by
    intro x u hx
    rcases hostBus_next hx with ⟨r, v, e⟩ | ⟨r, e⟩ | ⟨k, hdr, e⟩
    · exact .inl ⟨r, v, e⟩
    · exact .inr (.inl ⟨_, e⟩)
    · exact .inr (.inr ⟨k, hdr, e⟩)
  have plain : ∀ x, hostBus x s = .next t → ∃ q, (t.hostQ = q) ∧
      ((∃ r v, t = { acked (regWrite r v s) with hostQ := q }) ∨
       (∃ y, t = { returned y s with hostQ := q }) ∨
       (∃ k hdr, t = { hostFault k hdr s with hostQ := q }) ∨
       (∃ a sz v, inWindow s.params a = false ∧ allMapped s.params a sz = true ∧
          t = { acked (memWrite a sz v s) with hostQ := q })) := by
    intro x hx
    refine ⟨t.hostQ, rfl, ?_⟩
    rcases viaBus x t hx with ⟨r, v, rfl⟩ | ⟨y, rfl⟩ | ⟨k, hdr, rfl⟩
    · exact .inl ⟨r, v, rfl⟩
    · exact .inr (.inl ⟨y, rfl⟩)
    · exact .inr (.inr (.inl ⟨k, hdr, rfl⟩))
  have polled : ∀ o x done, hostPoll o x done s = .next t → ∃ q, (t.hostQ = q) ∧
      ((∃ r v, t = { acked (regWrite r v s) with hostQ := q }) ∨
       (∃ y, t = { returned y s with hostQ := q }) ∨
       (∃ k hdr, t = { hostFault k hdr s with hostQ := q }) ∨
       (∃ a sz v, inWindow s.params a = false ∧ allMapped s.params a sz = true ∧
          t = { acked (memWrite a sz v s) with hostQ := q })) := by
    intro o x done hx
    unfold hostPoll at hx
    cases hb : hostBus x s with
    | next u =>
      simp only [hb] at hx
      have lift : ∃ q, t = { u with hostQ := q } := by
        split at hx
        · split at hx <;> cases hx
          · exact ⟨_, rfl⟩
          · exact ⟨_, rfl⟩
        · exact ⟨t.hostQ, by cases hx; rfl⟩
      obtain ⟨q, rfl⟩ := lift
      refine ⟨q, rfl, ?_⟩
      rcases viaBus x u hb with ⟨r, v, rfl⟩ | ⟨y, rfl⟩ | ⟨k, hdr, rfl⟩
      · exact .inl ⟨r, v, rfl⟩
      · exact .inr (.inl ⟨y, rfl⟩)
      · exact .inr (.inr (.inl ⟨k, hdr, rfl⟩))
    | fault f => simp only [hb] at hx; cases hx
    | refused f => simp only [hb] at hx; cases hx
  cases op with
  | bus x => exact plain x h
  | load a sz =>
    simp only [hostOp, hostLoad] at h
    split at h
    · exact plain _ h
    · cases h
      rcases hostMemory_cases a sz (fun u => returned (memRead a sz u) u) s with ⟨_, _, e⟩ | ⟨k, e⟩ <;> rw [e]
      · exact ⟨_, rfl, .inr (.inl ⟨_, rfl⟩)⟩
      · exact ⟨_, rfl, .inr (.inr (.inl ⟨k, none, rfl⟩))⟩
  | store a sz v =>
    simp only [hostOp, hostStore] at h
    split at h
    · exact plain _ h
    · rename_i hw
      cases h
      rcases hostMemory_cases a sz (fun u => acked (memWrite a sz v u)) s with ⟨_, hm, e⟩ | ⟨k, e⟩ <;> rw [e]
      · exact ⟨_, rfl, .inr (.inr (.inr ⟨a, sz, v, by simpa using hw, hm, rfl⟩))⟩
      · exact ⟨_, rfl, .inr (.inr (.inl ⟨k, none, rfl⟩))⟩
  | waitIdle n => simp only [hostOp] at h; exact polled _ _ _ h
  | waitSeq => simp only [hostOp] at h; exact polled _ _ _ h

/-! ### A channel's turn -/

/-- What a channel's turn can do (41_transfer_engine.md R176). -/
theorem chStep_next {n : Chan} (h : chStep n s = .next t) :
    (chEnabled n s = false ∧ t = s) ∨
    (∃ sz m, chEnabled n s = true ∧ Ctrl.size? (s.ch n).ctrl = some sz ∧ Ctrl.chain? (s.ch n).ctrl = some m ∧
      ((s.ch n).phase = .read ∧ t = chReadPhase n sz s ∨ (s.ch n).phase = .write ∧ t = chWritePhase n sz s)) := by
  unfold chStep at h
  split at h
  · rename_i he; cases h; exact .inl ⟨he, rfl⟩
  · rename_i he
    split at h
    · rename_i sz m hs hc
      split at h
      · rename_i hp; cases h
        exact .inr ⟨sz, m, by simpa using he, hs, hc, .inl ⟨hp, rfl⟩⟩
      · rename_i hp; cases h
        exact .inr ⟨sz, m, by simpa using he, hs, hc, .inr ⟨hp, rfl⟩⟩
    · cases h

/-- What a read phase can do (41_transfer_engine.md R177, R178). -/
theorem chReadPhase_cases (n : Chan) (sz : Size) (s : State) :
    chReadPhase n sz s = raiseEvent (.readErr n (s.ch n).readAddr) s ∨
    (∃ x, aligned (s.ch n).readAddr sz = true ∧ busRead (s.ch n).readAddr sz s = some x ∧
      chReadPhase n sz s = s.setCh n { s.ch n with hold := x, phase := .write }) := by
  unfold chReadPhase
  split
  · exact .inl rfl
  · rename_i ha
    split
    · exact .inl rfl
    · rename_i x hx
      exact .inr ⟨x, by simpa using ha, hx, rfl⟩

/-- What a write phase can do (41_transfer_engine.md R179, R180). -/
theorem chWritePhase_cases (n : Chan) (sz : Size) (s : State) :
    chWritePhase n sz s = raiseEvent (.writeErr n (s.ch n).writeAddr) s ∨
    (∃ w, aligned (s.ch n).writeAddr sz = true ∧ busWrite (s.ch n).writeAddr sz (s.ch n).hold s = some w ∧
      chWritePhase n sz s = finishElement n sz w) := by
  unfold chWritePhase
  split
  · exact .inl rfl
  · rename_i ha
    split
    · exact .inl rfl
    · rename_i w hw
      exact .inr ⟨w, by simpa using ha, hw, rfl⟩

/-- What completion can do: BUSY falls, and perhaps one other channel is triggered (41_transfer_engine.md R182, R183). -/
theorem complete_cases (n : Chan) (s : State) :
    complete n s = s.modCtrl n (Ctrl.putBusy false) ∨
    (∃ m, m ≠ n ∧ Ctrl.chain? (s.ch n).ctrl = some m ∧
      complete n s = trigger m (s.modCtrl n (Ctrl.putBusy false))) := by
  unfold complete
  dsimp only
  split
  · rename_i m hm
    split
    · exact .inl rfl
    · rename_i hne; exact .inr ⟨m, hne, hm, rfl⟩
  · exact .inl rfl

/-! ### A generator's turn -/

/-- What a generator's turn can do (44_timing_generators.md R250, R252). -/
theorem genStep_cases (g : Gen) (s : State) :
    (latchEnabled g s = true ∧ genStep g s = genLatch g s) ∨
    (g = .p ∧ pixPopEnabled s = true ∧ genStep g s = pixPop s) ∨ genStep g s = s := by
  unfold genStep
  split
  · rename_i h; exact .inl ⟨h, rfl⟩
  · split
    · rename_i h; exact .inr (.inl ⟨h.1, h.2, rfl⟩)
    · exact .inr (.inr rfl)

/-! ### A step -/

/-- A step that answers a next state is one agent's turn, counted (20_memory.md R104). -/
theorem step_next (h : step s = .next t) :
    ∃ u, agentStep (nextAgent s) (takeTurn s) = .next u ∧ t = countStep u := by
  unfold step stepOnce counted at h
  split at h
  · rename_i u hu; cases h; exact ⟨u, hu, rfl⟩
  · cases h
  · cases h

/-- The instruction of a transaction whose turn it is runs (30_encoding.md R130). -/
theorem step_of_transaction {x : Transaction} {rest : List HostOp} {i : Instr} (ha : nextAgent s = .host)
    (hq : s.hostQ = .bus x :: rest) (hd : decode x = .ok i) :
    step s = counted (exec i { takeTurn s with hostQ := rest }) := by
  simp [step, stepOnce, ha, agentStep, hostStep, hq, hostOp, hostBus, hd]

end Sys2Proof.Machine
end

