-- ==== Sys2Proof/Laws/Run.lean ====
section
/-! SUPPORT. Runs of the machine (20_memory.md R104): how they are cut and joined, whose turn a schedule gives, and the
decoded accesses of one memory byte and of one register of the window. -/

namespace Sys2Proof.Machine

variable {s t u : State}

/-! ### Cutting and joining runs -/

/-- No step leaves the state as it is. -/
theorem run_zero (s : State) : core.run 0 s = .next s := rfl

/-- A run begins with its first step. -/
theorem run_succ {k : Nat} (h : step s = .next t) : core.run (k + 1) s = core.run k t := by
  have e : core.step s = .next t := h
  simp only [Host.Core.run, e]

/-- A run goes on from where its first `j` steps led. -/
theorem run_add {j k : Nat} (h : core.run j s = .next t) : core.run (j + k) s = core.run k t := by
  induction j generalizing s with
  | zero =>
    cases h
    rw [Nat.zero_add]
  | succ j ih =>
    rw [show j + 1 + k = (j + k) + 1 by omega]
    cases hs : step s with
    | next v =>
      rw [run_succ hs] at h ⊢
      exact ih h
    | fault r =>
      have e : core.step s = .fault r := hs
      simp only [Host.Core.run, e, reduceCtorEq] at h
    | refused r =>
      have e : core.step s = .refused r := hs
      simp only [Host.Core.run, e, reduceCtorEq] at h

/-! ### Whose turn a schedule gives -/

/-- A scheduled channel has its turn. -/
theorem step_chan {n : Chan} {turns : List Agent} (hs : s.sched = .chan n :: turns) :
    step s = counted (chStep n { s with sched := turns }) := by
  simp [step, stepOnce, nextAgent, hs, takeTurn, agentStep]

/-- A scheduled generator has its turn. -/
theorem step_gen {g : Gen} {turns : List Agent} (hs : s.sched = .gen g :: turns) :
    step s = .next (countStep (genStep g { s with sched := turns })) := by
  simp [step, stepOnce, nextAgent, hs, takeTurn, agentStep, counted]

/-- The scheduled sequencer has its turn. -/
theorem step_seq {turns : List Agent} (hs : s.sched = .seq :: turns) :
    step s = .next (countStep (seqStep { s with sched := turns })) := by
  simp [step, stepOnce, nextAgent, hs, takeTurn, agentStep, counted]

/-- The scheduled host performs its next access. -/
theorem step_host {turns : List Agent} {op : HostOp} {rest : List HostOp} (hs : s.sched = .host :: turns)
    (hq : s.hostQ = op :: rest) : step s = counted (hostOp op { s with sched := turns, hostQ := rest }) := by
  simp [step, stepOnce, nextAgent, hs, takeTurn, agentStep, hostStep, hq]

/-- A run that begins with a host access goes on from what the access leaves. -/
theorem run_host {k : Nat} {turns : List Agent} {op : HostOp} {rest : List HostOp} (hs : s.sched = .host :: turns)
    (hq : s.hostQ = op :: rest) (h : hostOp op { s with sched := turns, hostQ := rest } = .next u) :
    core.run (k + 1) s = core.run k (countStep u) := by
  apply run_succ
  rw [step_host hs hq, h]
  rfl

/-- A host's register write does the register's write and is acknowledged (30_encoding.md R132). -/
theorem hostWr_eq (r : Reg) (v : Word) (s : State) : hostOp (hostWr r v) s = .next (acked (regWrite r v s)) := by
  simp only [hostWr, hostOp, encodeAccess, hostBus]
  rw [decode_mkHeader]
  simp only [Bool.true_eq_false, false_and, if_false, Reg.ofOffset_offset, ne_eq, not_true_eq_false, true_and, if_true,
    narrow]
  exact exec_write (r.writeInstr_access _ _ (.inl rfl)) s

/-! ### Decoded accesses -/

/-- A byte access is aligned everywhere (20_memory.md R97). -/
theorem aligned_byte (a : Addr) : aligned a .byte = true := by simp [aligned, Size.bytes, Nat.mod_one]

/-- The decoded read of one byte of memory (20_memory.md R92, R96). -/
theorem busRead_byte {a : Addr} (h : isMemory s.params a = true) :
    busRead a .byte s = some (0#24 ++ readByte s a) := by
  simp only [isMemory, Bool.and_eq_true, Bool.not_eq_true'] at h
  simp [busRead, h.1, allMapped, Size.bytes, addrAt_zero, h.2, memRead, wordOf]

/-- The decoded write of one byte of memory (20_memory.md R92, R96). -/
theorem busWrite_byte {a : Addr} (v : Word) (h : isMemory s.params a = true) :
    busWrite a .byte v s = some { s with mem := s.mem.write a.toNat (v.extractLsb' 0 8) } := by
  simp only [isMemory, Bool.and_eq_true, Bool.not_eq_true'] at h
  simp [busWrite, h.1, allMapped, Size.bytes, addrAt_zero, h.2, memWrite, bytesOf, Memory.writeBytes]

/-- A host byte store to memory (20_memory.md R92, R94). -/
theorem hostOp_store_byte {a : Addr} (v : Word) (h : isMemory s.params a = true) :
    hostOp (.store a .byte v) s = .next { s with mem := s.mem.write a.toNat (v.extractLsb' 0 8), resp := .ack } := by
  simp only [isMemory, Bool.and_eq_true, Bool.not_eq_true'] at h
  simp [hostOp, hostStore, hostMemory, h.1, aligned_byte, allMapped, Size.bytes, addrAt_zero, h.2, memWrite, bytesOf,
    Memory.writeBytes, acked]

/-- A host byte store where nothing is mapped is a host-access fault (20_memory.md R94; 92_eei_decisions.md D6). -/
theorem hostOp_store_byte_unmapped {a : Addr} (v : Word) (hw : inWindow s.params a = false)
    (hm : memMapped s.params a = false) : ∃ k, hostOp (.store a .byte v) s = .next (hostFault k none s) :=
  ⟨Config.unmappedKind s.stepNo a, by
    simp [hostOp, hostStore, hostMemory, hw, aligned_byte, allMapped, Size.bytes, addrAt_zero, hm]⟩

/-- The addresses from the base of the window up to its 4 KiB lie in it, at that offset (20_memory.md R90, R94). -/
theorem inWindow_base (p : Params) (k : Nat) (hk : k < 0x1000) :
    inWindow p (p.sdbBase + BitVec.ofNat 32 k) = true ∧
    windowOffset p (p.sdbBase + BitVec.ofNat 32 k) = BitVec.ofNat 12 k := by
  have e : p.sdbBase + BitVec.ofNat 32 k - p.sdbBase = BitVec.ofNat 32 k := by
    rw [BitVec.add_comm]
    exact BitVec.add_sub_cancel _ _
  unfold inWindow windowOffset
  rw [e]
  constructor
  · simp
    omega
  · apply BitVec.eq_of_toNat_eq
    simp

/-- A write of any size may reach PIX_TXF (20_memory.md R95). -/
theorem legalReg_pixTxf (sz : Size) : legalReg? 0x210#12 sz true = some .pixTxf := by cases sz <;> decide

end Sys2Proof.Machine
end

