-- ==== Sys2Proof/Tests/Slice0.lean ====
section
/-! SUPPORT. Tests of one step each, with results from spec/95_test_vectors.md (the vector's name stands in each docstring)
or worked out by hand from the rule named, and a concrete state for the hypotheses of each statement. -/

namespace Sys2Proof.Tests

open Sys2Proof.Machine

/-! ### Well-formedness -/

/-- A byte or halfword write of PIX_TXF holds no more than its size; a word write holds any value. -/
theorem test_wf_pixTxf :
    (Instr.wrPixTxfB 0xFF#32).wf = true ∧ (Instr.wrPixTxfB 0x100#32).wf = false ∧
    (Instr.wrPixTxfH 0xFFFF#32).wf = true ∧ (Instr.wrPixTxfH 0x10000#32).wf = false ∧
    (Instr.wrPixTxfW 0xFFFFFFFF#32).wf = true := by decide

/-- The example parameters of 95_test_vectors.md section 0 are legal. -/
theorem test_legal_example : exampleParams.legal = true := by decide

/-- Each bound of 00_scope.md R9 on one parameter, just broken. -/
theorem test_inBounds_refuses :
    ({ exampleParams with sdbBase := 0x50000800#32 } : Params).inBounds = false ∧
    ({ exampleParams with width := 0 } : Params).inBounds = false ∧
    ({ exampleParams with height := 0 } : Params).inBounds = false ∧
    ({ exampleParams with ptrAddr := 0x20000002#32 } : Params).inBounds = false ∧
    ({ exampleParams with progLenH := 0 } : Params).inBounds = false ∧
    ({ exampleParams with progLenH := 33 } : Params).inBounds = false ∧
    ({ exampleParams with progLenV := 0 } : Params).inBounds = false ∧
    ({ exampleParams with progLenV := 33 } : Params).inBounds = false ∧
    ({ exampleParams with progLenP := 0 } : Params).inBounds = false ∧
    ({ exampleParams with progLenP := 33 } : Params).inBounds = false ∧
    ({ exampleParams with pixDepth := 0 } : Params).inBounds = false ∧
    ({ exampleParams with pixDepth := 16 } : Params).inBounds = false ∧
    ({ exampleParams with paramDepth := 0 } : Params).inBounds = false ∧
    ({ exampleParams with paramDepth := 8 } : Params).inBounds = false := by decide

/-- Regions out of order, empty, touching, or beyond the address space are not canonical. -/
theorem test_regionsCanonical_refuses :
    regionsCanonical 0 [⟨0x2000, 0x10⟩, ⟨0x1000, 0x10⟩] = false ∧ regionsCanonical 0 [⟨0x1000, 0⟩] = false ∧
    regionsCanonical 0 [⟨0x1000, 0x10⟩, ⟨0x1010, 0x10⟩] = false ∧
    regionsCanonical 0 [⟨0xFFFFFFFF, 2⟩] = false ∧ regionsCanonical 0 [⟨0xFFFFFFFF, 1⟩] = true := by decide

/-- Memory in the window, a framebuffer or pointer cell that is not mapped, one that overlaps the other, and a length of
2^32 bytes break 00_scope.md R10. -/
theorem test_mapLegal_refuses :
    rangeUnmapped [⟨0x50000FFF, 1⟩] 0x50000000 0x50001000 = false ∧
    rangeMapped [⟨0x20000000, 0x40000⟩] 0x2003FFFF 0x20040001 = false ∧
    ({ exampleParams with memMap := [⟨0x20000000, 0x40000⟩, ⟨0x50000FFF, 1⟩] } : Params).mapLegal = false ∧
    ({ exampleParams with fbBase := 0x10000000#32 } : Params).mapLegal = false ∧
    ({ exampleParams with ptrAddr := 0x10000000#32 } : Params).mapLegal = false ∧
    ({ exampleParams with ptrAddr := 0x20000100#32 } : Params).mapLegal = false ∧
    ({ exampleParams with width := 65536, height := 65536 } : Params).mapLegal = false := by decide

/-! ### Decoding: words written out from the opcode table -/

/-- The channel0 rows of the opcode table (30_encoding.md R127). -/
theorem test_decode_channel0 :
    [0x12345678A000, 0x123456782000, 0x12345678A004, 0x123456782004, 0x12345678A008, 0x123456782008, 0x12345678A00C,
     0x12345678200C].map (decodeTableWord 48) =
    [.wrCh0ReadAddr 0x12345678#32, .rdCh0ReadAddr, .wrCh0WriteAddr 0x12345678#32, .rdCh0WriteAddr,
     .wrCh0TransCount 0x12345678#32, .rdCh0TransCount, .wrCh0Ctrl 0x12345678#32, .rdCh0Ctrl].map some := by decide

/-- The channel1 rows of the opcode table (30_encoding.md R127). -/
theorem test_decode_channel1 :
    [0x12345678A040, 0x123456782040, 0x12345678A044, 0x123456782044, 0x12345678A048, 0x123456782048, 0x12345678A04C,
     0x12345678204C].map (decodeTableWord 48) =
    [.wrCh1ReadAddr 0x12345678#32, .rdCh1ReadAddr, .wrCh1WriteAddr 0x12345678#32, .rdCh1WriteAddr,
     .wrCh1TransCount 0x12345678#32, .rdCh1TransCount, .wrCh1Ctrl 0x12345678#32, .rdCh1Ctrl].map some := by decide

/-- The channel2 rows of the opcode table (30_encoding.md R127). -/
theorem test_decode_channel2 :
    [0x12345678A080, 0x123456782080, 0x12345678A084, 0x123456782084, 0x12345678A088, 0x123456782088, 0x12345678A08C,
     0x12345678208C].map (decodeTableWord 48) =
    [.wrCh2ReadAddr 0x12345678#32, .rdCh2ReadAddr, .wrCh2WriteAddr 0x12345678#32, .rdCh2WriteAddr,
     .wrCh2TransCount 0x12345678#32, .rdCh2TransCount, .wrCh2Ctrl 0x12345678#32, .rdCh2Ctrl].map some := by decide

/-- The global rows of the opcode table (30_encoding.md R127). -/
theorem test_decode_global :
    [0x12345678A100, 0x123456782100, 0x12345678A104, 0x123456782104, 0x12345678A108, 0x123456782108].map (decodeTableWord 48) =
    [.wrMultiTrig 0x12345678#32, .rdMultiTrig, .wrStatus 0x12345678#32, .rdStatus, .wrResClaim 0x12345678#32,
     .rdResClaim].map some := by decide

/-- The generator rows of the opcode table (30_encoding.md R127). -/
theorem test_decode_generator :
    [0x12345678A200, 0x123456782200, 0x12345678A204, 0x123456782204, 0x12345678A208, 0x123456782208, 0x12345678A20C,
     0x12345678220C, 0x123456788210, 0x123456789210, 0x12345678A210, 0x123456782210, 0x12345678A214, 0x123456782214,
     0x12345678A218, 0x123456782218].map (decodeTableWord 48) =
    [.wrGenEnable 0x12345678#32, .rdGenEnable, .wrGenParamH 0x12345678#32, .rdGenParamH, .wrGenParamV 0x12345678#32,
     .rdGenParamV, .wrGenParamP 0x12345678#32, .rdGenParamP, .wrPixTxfB 0x00000078#32, .wrPixTxfH 0x00005678#32,
     .wrPixTxfW 0x12345678#32, .rdPixTxf, .wrGenStatus 0x12345678#32, .rdGenStatus, .wrImemUsed 0x12345678#32,
     .rdImemUsed].map some := by decide

/-- The sequencer rows of the opcode table (30_encoding.md R127). -/
theorem test_decode_sequencer :
    [0x12345678A300, 0x123456782300, 0x12345678A304, 0x123456782304, 0x12345678A308, 0x123456782308, 0x12345678A30C,
     0x12345678230C, 0x12345678A310, 0x123456782310, 0x12345678A314, 0x123456782314, 0x12345678A318, 0x123456782318,
     0x12345678A31C, 0x12345678231C, 0x12345678A320, 0x123456782320].map (decodeTableWord 48) =
    [.wrSeqFbBase 0x12345678#32, .rdSeqFbBase, .wrSeqFbLen 0x12345678#32, .rdSeqFbLen, .wrSeqPtrAddr 0x12345678#32,
     .rdSeqPtrAddr, .wrSeqParamH 0x12345678#32, .rdSeqParamH, .wrSeqParamV 0x12345678#32, .rdSeqParamV,
     .wrSeqParamP 0x12345678#32, .rdSeqParamP, .wrSeqPins 0x12345678#32, .rdSeqPins, .wrSeqCtrl 0x12345678#32,
     .rdSeqCtrl, .wrSeqStatus 0x12345678#32, .rdSeqStatus].map some := by decide

/-- Vectors V4 to V7: bit 14 set, or the reserved size. -/
theorem test_decode_illegalHeader :
    [0xE000#16, 0x6000#16, 0xB000#16, 0xF000#16].map (fun h => (decode ⟨h, 0#32⟩).toOption) =
      [none, none, none, none] ∧
    decode ⟨0xE000#16, 0#32⟩ = .error .illegalHeader ∧ decode ⟨0x3210#16, 0#32⟩ = .error .illegalHeader := by decide

/-- Vectors V8, V9, V22: a narrow read, before the offset is looked at. -/
theorem test_decode_narrowRead :
    decode ⟨0x1000#16, 0#32⟩ = .error .narrowRead ∧ decode ⟨0x0400#16, 0#32⟩ = .error .narrowRead ∧
    decode ⟨0x0210#16, 0#32⟩ = .error .narrowRead := by decide

/-- Vectors V10 to V16: an undefined offset, before the size of a write is looked at. -/
theorem test_decode_undefinedOffset :
    decode ⟨0x2400#16, 0#32⟩ = .error .undefinedOffset ∧ decode ⟨0x2010#16, 0#32⟩ = .error .undefinedOffset ∧
    decode ⟨0x20C0#16, 0#32⟩ = .error .undefinedOffset ∧ decode ⟨0x2002#16, 0#32⟩ = .error .undefinedOffset ∧
    decode ⟨0xA324#16, 0#32⟩ = .error .undefinedOffset ∧ decode ⟨0x2FFC#16, 0#32⟩ = .error .undefinedOffset ∧
    decode ⟨0x8400#16, 1#32⟩ = .error .undefinedOffset := by decide

/-- Vectors V17, V18: a narrow write anywhere but PIX_TXF. -/
theorem test_decode_narrowWrite :
    decode ⟨0x8000#16, 0xFF#32⟩ = .error .narrowWrite ∧ decode ⟨0x9214#16, 0#32⟩ = .error .narrowWrite := by decide

/-! ### One transaction on a small state -/

/-- The next state of an outcome, if it has one. -/
def after (o : Host.Outcome State Fault Refusal) : Option State :=
  match o with
  | .next s => some s
  | .fault _ => none
  | .refused _ => none

/-- The state after the host's transaction of this header and data word: one step. -/
def bus (hdr : BitVec 16) (data : Word) (s : State) : Option State := after (step (placeTransaction ⟨hdr, data⟩ s))

/-- What the host gets back for this header and data word. -/
def answer (hdr : BitVec 16) (data : Word) (s : State) : Option Response := (bus hdr data s).map (·.resp)

/-- A small state whose registers all differ. -/
def sample : State :=
  { State.reset with
    ch0 := ⟨0x20000001#32, 0x20000002#32, 0x3#32, 0x4#32, 0x00001110#32, .read, 0x5#32⟩
    ch1 := ⟨0x20000011#32, 0x20000012#32, 0x13#32, 0x14#32, 0x00000008#32, .read, 0x15#32⟩
    ch2 := ⟨0x20000021#32, 0x20000022#32, 0x23#32, 0x24#32, 0x01000221#32, .read, 0x25#32⟩
    resClaim := 0x71#32, genEnable := 0x5#32, imemUsed := 0x10#32
    seqFbBase := 0x31#32, seqFbLen := 0x32#32, seqPtrAddr := 0x33#32, seqParamH := 0x34#32, seqParamV := 0x35#32
    seqParamP := 0x36#32, seqPins := 0x37#32, seqState := .running }

/-- R151, R153, R155, R157: the reads of the three channels return the field each header names; TRANS_COUNT returns the
remaining count. -/
theorem test_read_channels :
    [0x2000#16, 0x2004#16, 0x2008#16, 0x200C#16, 0x2040#16, 0x2044#16, 0x2048#16, 0x204C#16, 0x2080#16, 0x2084#16,
     0x2088#16, 0x208C#16].map (fun h => answer h 0xFFFFFFFF#32 sample) =
    [0x20000001#32, 0x20000002#32, 0x4#32, 0x00001110#32, 0x20000011#32, 0x20000012#32, 0x14#32, 0x00000008#32,
     0x20000021#32, 0x20000022#32, 0x24#32, 0x01000221#32].map (fun v => some (.data v)) := by decide

/-- R161, R163, R243, R249, R281, R286: the reads of the other registers; the write-only ones return 0 (R159, R245, R247,
R285). -/
theorem test_read_others :
    [0x2100#16, 0x2104#16, 0x2108#16, 0x2200#16, 0x2204#16, 0x2208#16, 0x220C#16, 0x2210#16, 0x2214#16, 0x2218#16,
     0x2300#16, 0x2304#16, 0x2308#16, 0x230C#16, 0x2310#16, 0x2314#16, 0x2318#16, 0x231C#16, 0x2320#16].map
      (fun h => answer h 0xFFFFFFFF#32 sample) =
    [0x0#32, 0x4#32, 0x71#32, 0x5#32, 0x0#32, 0x0#32, 0x0#32, 0x0#32, 0x0#32, 0x10#32,
     0x31#32, 0x32#32, 0x33#32, 0x34#32, 0x35#32, 0x36#32, 0x37#32, 0x0#32, 0x7#32].map
      (fun v => some (.data v)) := by decide

/-- Vectors V1, V3, V37, for every channel: each write sets its own field; TRANS_COUNT sets the reload value and leaves the
remaining count. -/
theorem test_write_channels :
    (bus 0xA000#16 0x20000100#32 sample).map (·.ch0) = some { sample.ch0 with readAddr := 0x20000100#32 } ∧
    (bus 0xA004#16 0x20000100#32 sample).map (·.ch0) = some { sample.ch0 with writeAddr := 0x20000100#32 } ∧
    (bus 0xA008#16 0x00012C00#32 sample).map (·.ch0) = some { sample.ch0 with tcReload := 0x00012C00#32 } ∧
    (bus 0xA040#16 0x20000100#32 sample).map (·.ch1) = some { sample.ch1 with readAddr := 0x20000100#32 } ∧
    (bus 0xA044#16 0x50000000#32 sample).map (·.ch1) = some { sample.ch1 with writeAddr := 0x50000000#32 } ∧
    (bus 0xA048#16 0x00012C00#32 sample).map (·.ch1) = some { sample.ch1 with tcReload := 0x00012C00#32 } ∧
    (bus 0xA080#16 0x20000100#32 sample).map (·.ch2) = some { sample.ch2 with readAddr := 0x20000100#32 } ∧
    (bus 0xA084#16 0x20000100#32 sample).map (·.ch2) = some { sample.ch2 with writeAddr := 0x20000100#32 } ∧
    (bus 0xA088#16 0x00012C00#32 sample).map (·.ch2) = some { sample.ch2 with tcReload := 0x00012C00#32 } := by decide

/-- Vectors V32, V44, V35: an idle channel's CTRL takes every writable field, a busy one's only EN. -/
theorem test_write_ctrl :
    (bus 0xA00C#16 0xFFFFFFFF#32 State.reset).map (·.ch0.ctrl) = some 0x0000373D#32 ∧
    (bus 0xA04C#16 0x00000009#32 State.reset).map (·.ch1.ctrl) = some 0x00000009#32 ∧
    (bus 0xA08C#16 0x00000000#32 sample).map (·.ch2.ctrl) = some 0x01000220#32 := by decide

/-- Vector V36: EN of a paused channel set again; the other written fields are ignored. -/
theorem test_resume_ctrl :
    (bus 0xA08C#16 0x00000231#32 { sample with ch2 := { sample.ch2 with ctrl := 0x01000220#32 } }).map (·.ch2.ctrl) =
      some 0x01000221#32 := by decide

/-- The start of vector V150: channel 0 has a reserved size, channel 1 is disabled, channel 2 is legal. -/
def threeChannels : State :=
  { State.reset with
    ch0 := { Channel.atReset .ch0 with ctrl := 0x0000000D#32, tcReload := 1#32 }
    ch1 := { Channel.atReset .ch1 with tcReload := 1#32 }
    ch2 := { Channel.atReset .ch2 with ctrl := 0x00000221#32, tcReload := 2#32 } }

/-- Vector V150: one MULTI_TRIG, three cases of the trigger, one entry in FAULTS. -/
theorem test_multiTrig_cases :
    (bus 0xA100#16 7#32 threeChannels).map (fun t => (t.ch0.ctrl, t.ch1, t.ch2.ctrl, t.ch2.tcRemain, t.faults)) =
      some (0x2000000D#32, threeChannels.ch1, 0x01000221#32, 2#32, [.cfgErr .ch0]) := by decide

/-- Vector V39: bits 31:3 of MULTI_TRIG are ignored, and bit 0 is channel 0. -/
theorem test_multiTrig_bits :
    (bus 0xA100#16 0xFFFFFFF8#32 threeChannels).map (fun t => (t.ch0, t.ch1, t.ch2)) =
      some (threeChannels.ch0, threeChannels.ch1, threeChannels.ch2) ∧
    (bus 0xA100#16 4#32 threeChannels).map (fun t => (t.ch0, t.ch1, Ctrl.busy t.ch2.ctrl)) =
      some (threeChannels.ch0, threeChannels.ch1, true) := by decide

/-- Vector V42: ERR[1] is bit 9, BUSY[0] and BUSY[2] are bits 0 and 2. -/
theorem test_status_bits :
    answer 0x2104#16 0#32 { State.reset with
      ch0 := { Channel.atReset .ch0 with ctrl := 0x01001111#32 }
      ch1 := { Channel.atReset .ch1 with ctrl := 0x40000009#32 }
      ch2 := { Channel.atReset .ch2 with ctrl := 0x01000221#32 } } = some (.data 0x00000205#32) := by decide

/-- Vectors V40, V121, V146: a write of a status register changes nothing. -/
theorem test_write_readOnly :
    [0xA104#16, 0xA214#16, 0xA320#16].map (fun h => bus h 0xFFFFFFFF#32 sample) =
      List.replicate 3 (some { sample with stepNo := 1, resp := .ack }) := by decide

/-- Vector V41: bit 3 and bits 31:8 of RES_CLAIM are reserved. -/
theorem test_write_resClaim : (bus 0xA108#16 0xFFFFFFFF#32 State.reset).map (·.resClaim) = some 0x000000F7#32 := by decide

/-- Vector V110: enabling generators without programs records NOPROG in the order H, V, P. -/
theorem test_enable_unloaded :
    (bus 0xA200#16 0x00000007#32 State.reset).map (fun t => (t.genEnable, t.faults, genStatusWord t)) =
      some (0x00000007#32, [.noprog .h, .noprog .v, .noprog .p], 0x00000080#32) := by decide

/-- Vector V111: enabling them again records nothing and moves no EN_STEP. -/
theorem test_enable_again :
    (bus 0xA200#16 0x00000007#32 { State.reset with genEnable := 0x00000007#32, stepNo := 9 }).map
      (fun t => (t.faults, t.genH.enStep, t.genV.enStep, t.genP.enStep)) = some ([], none, none, none) := by decide

/-- A state with every queue one below its capacity, as before the last pushes of vectors V113 and V114. -/
def almostFull : State :=
  { State.reset with
    genH := { Generator.atReset with paramQ := [1#32, 2#32, 3#32] }
    genV := { Generator.atReset with paramQ := [1#32, 2#32, 3#32] }
    genP := { Generator.atReset with paramQ := [1#32, 2#32, 3#32] }
    pixQ := [1#8, 2#8, 3#8] }

/-- A state with every queue full. -/
def full : State :=
  { State.reset with
    genH := { Generator.atReset with paramQ := [1#32, 2#32, 3#32, 4#32] }
    genV := { Generator.atReset with paramQ := [1#32, 2#32, 3#32, 4#32] }
    genP := { Generator.atReset with paramQ := [1#32, 2#32, 3#32, 4#32] }
    pixQ := [1#8, 2#8, 3#8, 4#8] }

/-- Vector V113, for each generator: the push goes to the end of that generator's queue. -/
theorem test_push_param :
    (bus 0xA204#16 4#32 almostFull).map (·.genH) = some full.genH ∧
    (bus 0xA208#16 4#32 almostFull).map (·.genV) = some full.genV ∧
    (bus 0xA20C#16 4#32 almostFull).map (·.genP) = some full.genP := by decide

/-- Vector V113: the push on a full queue is dropped and sets PARAM_OVER. -/
theorem test_push_param_full :
    [0xA204#16, 0xA208#16, 0xA20C#16].map (fun h => bus h 5#32 full) =
      List.replicate 3 (some { full with paramOver := true, stepNo := 1, resp := .ack }) := by decide

/-- Vectors V19 to V21: one entry for every size, bits 7:0 of the value. -/
theorem test_push_pixel :
    (bus 0x8210#16 0x00001234#32 State.reset).map (·.pixQ) = some [0x34#8] ∧
    (bus 0x9210#16 0x0000ABCD#32 State.reset).map (·.pixQ) = some [0xCD#8] ∧
    (bus 0xA210#16 0x11223344#32 State.reset).map (·.pixQ) = some [0x44#8] := by decide

/-- Vector V114: the push on a full pixel queue is dropped; GEN_STATUS shows level 4, full and PIX_TXOVER. -/
theorem test_push_pixel_full :
    [0x8210#16, 0x9210#16, 0xA210#16].map (fun h => (bus h 5#32 { State.reset with pixQ := full.pixQ }).map
      fun t => (t.pixQ, genStatusWord t)) = List.replicate 3 (some (full.pixQ, 0x00000034#32)) := by decide

/-- Vector V115: all loaded and latched, the pixel queue full. -/
theorem test_genStatus :
    answer 0x2214#16 0#32 { State.reset with
      genH := { Generator.atReset with loaded := true, latched := true }
      genV := { Generator.atReset with loaded := true, latched := true }
      genP := { Generator.atReset with loaded := true, latched := true }
      pixQ := full.pixQ } = some (.data 0x00007714#32) := by decide

/-- Vectors V119, V120: IMEM_USED is capped at 32 and written only in IDLE. -/
theorem test_write_imemUsed :
    (bus 0xA218#16 0x40#32 State.reset).map (·.imemUsed) = some 0x20#32 ∧
    (bus 0xA218#16 0x0#32 sample).map (·.imemUsed) = some 0x10#32 := by decide

/-- R282: in IDLE each configuration register takes the value. -/
theorem test_write_seqCfg :
    (bus 0xA300#16 0xABCDEF01#32 State.reset).map (·.seqFbBase) = some 0xABCDEF01#32 ∧
    (bus 0xA304#16 0xABCDEF01#32 State.reset).map (·.seqFbLen) = some 0xABCDEF01#32 ∧
    (bus 0xA308#16 0xABCDEF01#32 State.reset).map (·.seqPtrAddr) = some 0xABCDEF01#32 ∧
    (bus 0xA30C#16 0xABCDEF01#32 State.reset).map (·.seqParamH) = some 0xABCDEF01#32 ∧
    (bus 0xA310#16 0xABCDEF01#32 State.reset).map (·.seqParamV) = some 0xABCDEF01#32 ∧
    (bus 0xA314#16 0xABCDEF01#32 State.reset).map (·.seqParamP) = some 0xABCDEF01#32 ∧
    (bus 0xA318#16 0xABCDEF01#32 State.reset).map (·.seqPins) = some 0xABCDEF01#32 := by decide

/-- Vector V145: outside IDLE they keep their values. -/
theorem test_write_seqCfg_ignored :
    [0xA300#16, 0xA304#16, 0xA308#16, 0xA30C#16, 0xA310#16, 0xA314#16, 0xA318#16].map
      (fun h => bus h 0x30000000#32 sample) =
      List.replicate 7 (some { sample with stepNo := 1, resp := .ack }) := by decide

/-- Vectors V130 to V132: bit 0 of SEQ_CTRL starts an idle sequencer, the other bits do not count. -/
theorem test_start :
    [0x1#32, 0x0#32, 0x3#32, 0x2#32].map (fun v => (bus 0xA31C#16 v State.reset).map seqStatusWord) =
      [some 0x1#32, some 0x0#32, some 0x1#32, some 0x0#32] := by decide

/-- Vectors V143, V144: a second start sets DOUBLE_START and is recorded. -/
theorem test_start_again :
    (bus 0xA31C#16 1#32 sample).map (fun t => (seqStatusWord t, t.faults)) = some (0x00010007#32, [.doubleInit]) ∧
    (bus 0xA31C#16 1#32 { sample with seqState := .failed, failCode := .imemExhausted }).map seqStatusWord =
      some 0x0001010F#32 := by decide

/-- Vectors V7, V152: a rejected transaction records one host-access fault and changes nothing else. -/
theorem test_hostFault :
    bus 0xF000#16 0#32 sample = some { sample with
      stepNo := 1, resp := .hostFault .illegalHeader
      faults := [.hostFault .illegalHeader (some 0xF000#16)] } := by decide

/-- The word of the opcode table, placed as the next transaction, runs as the first instruction after reset. -/
theorem test_fetchWord :
    (after (step (State.reset.withFetchWord 48 0x20000100A000))).map (·.ch0.readAddr) = some 0x20000100#32 := by decide

/-! ### One step of the other agents -/

/-- The state after one turn of an agent. -/
def turn (a : Agent) (s : State) : Option State := after (step { s with sched := [a] })

/-- A state with the given channel 2 and memory 00 01 00 20 at the pointer cell, 04 at the framebuffer's start. -/
def withCh2 (c : Channel) : State :=
  { State.reset with
    ch2 := c
    mem := [(0x20000000, 0x00#8), (0x20000001, 0x01#8), (0x20000002, 0x00#8), (0x20000003, 0x20#8),
            (0x20000100, 0x04#8)] }

/-- Vector V70: a word is read with the lowest address's byte lowest. -/
theorem test_readPhase :
    (turn (.chan .ch2) (withCh2 ⟨0x20000000#32, 0#32, 1#32, 1#32, 0x01000209#32, .read, 0#32⟩)).map
      (fun t => (t.ch2.hold, t.ch2.phase, t.ch2.readAddr)) = some (0x20000100#32, .write, 0x20000000#32) := by decide

/-- Vectors V63, V64: a misaligned and an unmapped read. -/
theorem test_readPhase_errors :
    (turn (.chan .ch2) (withCh2 ⟨0x20000002#32, 0#32, 1#32, 1#32, 0x01000209#32, .read, 0#32⟩)).map
      (fun t => (t.ch2, t.faults)) =
      some (⟨0x20000002#32, 0#32, 1#32, 1#32, 0x40000209#32, .read, 0#32⟩, [.readErr .ch2 0x20000002#32]) ∧
    (turn (.chan .ch2) (withCh2 ⟨0x10000000#32, 0#32, 1#32, 1#32, 0x01000221#32, .read, 0#32⟩)).map
      (fun t => (t.ch2.ctrl, t.faults)) = some (0x40000221#32, [.readErr .ch2 0x10000000#32]) := by decide

/-- Vectors V65, V66: a channel reads a register as a word, and not as a byte. -/
theorem test_readPhase_register :
    (turn (.chan .ch2) (withCh2 ⟨0x50000104#32, 0#32, 1#32, 1#32, 0x01000209#32, .read, 0#32⟩)).map (·.ch2.hold) =
      some 0x4#32 ∧
    (turn (.chan .ch2) (withCh2 ⟨0x50000104#32, 0#32, 1#32, 1#32, 0x01000221#32, .read, 0#32⟩)).map (·.ch2.ctrl) =
      some 0x40000221#32 := by decide

/-- Vectors V67, V68: a halfword write, misaligned and not. -/
theorem test_writePhase :
    (turn (.chan .ch2) (withCh2 ⟨0#32, 0x20001001#32, 2#32, 2#32, 0x01000225#32, .write, 0xBEEF#32⟩)).map
      (fun t => (t.ch2.ctrl, t.ch2.phase, t.mem.read? 0x20001001)) = some (0x80000225#32, .write, none) ∧
    (turn (.chan .ch2) (withCh2 ⟨0#32, 0x20001002#32, 2#32, 2#32, 0x01000225#32, .write, 0xBEEF#32⟩)).map
      (fun t => (t.ch2.writeAddr, t.ch2.tcRemain, t.mem.read? 0x20001002, t.mem.read? 0x20001003)) =
      some (0x20001004#32, 1#32, some 0xEF#8, some 0xBE#8) := by decide

/-- Vectors V69, V72: a write to an undefined offset, and to the channel's own READ_ADDR before it advances. -/
theorem test_writePhase_register :
    (turn (.chan .ch2) (withCh2 ⟨0#32, 0x50000400#32, 2#32, 2#32, 0x01000209#32, .write, 0#32⟩)).map (·.ch2.ctrl) =
      some 0x80000209#32 ∧
    (turn (.chan .ch2) (withCh2 ⟨0#32, 0x50000080#32, 2#32, 2#32, 0x01000219#32, .write, 0x20003000#32⟩)).map
      (fun t => (t.ch2.readAddr, t.ch2.tcRemain)) = some (0x20003004#32, 1#32) := by decide

/-- Vectors V73, V75: the last element of a channel that chains to itself, and to a channel with count 0. -/
theorem test_complete :
    (turn (.chan .ch2) (withCh2 ⟨0#32, 0x20001000#32, 1#32, 1#32, 0x01000221#32, .write, 7#32⟩)).map
      (fun t => (t.ch2.ctrl, t.ch2.tcRemain)) = some (0x00000221#32, 0#32) ∧
    (turn (.chan .ch2)
      { withCh2 ⟨0#32, 0x20001000#32, 1#32, 1#32, 0x01000021#32, .write, 7#32⟩ with
        ch0 := ⟨0#32, 0#32, 0#32, 5#32, 0x00000101#32, .read, 0#32⟩ }).map
      (fun t => (t.ch0.tcRemain, statusWord t)) = some (0#32, 0#32) := by decide

/-- Vectors V60, V61: a paced channel waits for room in the pixel queue. -/
theorem test_paced :
    (turn (.chan .ch0) { full with ch0 := ⟨0x20000100#32, 0#32, 4#32, 4#32, 0x01001111#32, .read, 0#32⟩ }).map (·.ch0) =
      some ⟨0x20000100#32, 0#32, 4#32, 4#32, 0x01001111#32, .read, 0#32⟩ ∧
    (turn (.chan .ch0)
      { withCh2 (Channel.atReset .ch2) with
        ch0 := ⟨0x20000100#32, 0#32, 4#32, 4#32, 0x01001111#32, .read, 0#32⟩, pixQ := [1#8, 2#8, 3#8] }).map
      (·.ch0) = some ⟨0x20000100#32, 0#32, 4#32, 4#32, 0x01001111#32, .write, 4#32⟩ := by decide

/-- Vectors V116, V117: the pixel generator takes the oldest byte, the vertical one latches the oldest parameter. -/
theorem test_generators :
    (turn (.gen .p) { State.reset with
      genEnable := 4#32, genP := { Generator.atReset with loaded := true, latched := true }
      pixQ := [4#8, 2#8] }).map (fun t => (t.pixQ, t.pixOut)) = some ([2#8], [4#8]) ∧
    (turn (.gen .v) { State.reset with
      genEnable := 2#32, genV := { Generator.atReset with loaded := true, paramQ := [0x1E0#32, 0x99#32] } }).map
      (·.genV) = some { Generator.atReset with
        loaded := true, latched := true, cntLoad := 0x1E0#32, paramQ := [0x99#32] } := by decide

/-- Vectors V133 to V136: the load and assign phases. -/
theorem test_load_assign :
    (turn .seq { State.reset with seqState := .load }).map
      (fun t => (t.imemUsed, t.genH.loaded, t.genV.loaded, t.genP.loaded, t.seqState)) =
      some (16#32, true, true, true, .assign) ∧
    [0x0#32, 0x20#32, 0x80#32].map (fun c => (turn .seq { State.reset with seqState := .assign, resClaim := c }).map
      fun t => (t.resClaim, seqStatusWord t)) =
      [some (0x70#32, 0x3#32), some (0x20#32, 0x20F#32), some (0xF0#32, 0x3#32)] := by decide

/-- The sequencer configuration of program P3. -/
def configured (q : SeqState) (claim : Word) : State :=
  { State.reset with
    seqFbBase := 0x20000100#32, seqFbLen := 4#32, seqPtrAddr := 0x20000000#32
    seqParamH := 0x280#32, seqParamV := 0x1E0#32, seqParamP := 0x280#32, seqPins := 0x13121011#32
    genH := { Generator.atReset with loaded := true }
    genV := { Generator.atReset with loaded := true }
    genP := { Generator.atReset with loaded := true }
    imemUsed := 16#32, seqState := q, resClaim := claim }

/-- Vectors V137 to V139: the config phase. -/
theorem test_config :
    (turn .seq (configured .config 0x71#32)).map (fun t => (seqStatusWord t, t.ch0, t.ch1)) =
      some (0x30F#32, Channel.atReset .ch0, Channel.atReset .ch1) ∧
    (turn .seq (configured .config 0x74#32)).map (·.resClaim) = some 0x77#32 ∧
    (turn .seq (configured .config 0x70#32)).map (fun t => (t.resClaim, t.ch0, t.ch1, t.seqState)) =
      some (0x73#32, ⟨0x20000100#32, 0x50000210#32, 4#32, 0#32, 0x00001111#32, .read, 0#32⟩,
        ⟨0x20000000#32, 0x50000000#32, 1#32, 0#32, 0x00000009#32, .read, 0#32⟩, .param) := by decide

/-- Vector V140: the param phase, with V's queue full. -/
theorem test_param :
    (turn .seq { configured .param 0x73#32 with
      genV := { Generator.atReset with loaded := true, paramQ := [1#32, 2#32, 3#32, 4#32] } }).map
      (fun t => (t.genH.paramQ, t.genV.paramQ, t.genP.paramQ)) =
      some ([0x280#32], [1#32, 2#32, 3#32, 4#32], [0x280#32]) ∧
    (turn .seq { configured .param 0x73#32 with
      genV := { Generator.atReset with loaded := true, paramQ := [1#32, 2#32, 3#32, 4#32] } }).map
      (fun t => (t.paramOver, t.seqState)) = some (true, .enable) := by decide

/-- Vectors V141, V142: the enable and arm phases. -/
theorem test_enable_arm :
    (turn .seq { configured .enable 0x73#32 with stepNo := 5 }).map
      (fun t => (t.genEnable, t.genH.enStep, t.genV.enStep, t.genP.enStep)) = some (7#32, some 5, some 5, some 5) ∧
    (turn .seq (configured .enable 0x73#32)).map (fun t => (t.faults, t.seqState)) = some ([], .arm) ∧
    (turn .seq { configured .arm 0x73#32 with
      ch0 := ⟨0x20000100#32, 0x50000210#32, 4#32, 0#32, 0x00001111#32, .read, 0#32⟩ }).map
      (fun t => (t.ch0.ctrl, t.ch0.tcRemain, seqStatusWord t)) = some (0x01001111#32, 4#32, 7#32) := by decide

/-- 20_memory.md R92, R97: a host store and load of a word, and a misaligned one; and 92_eei_decisions.md D6: an unmapped
one is one host-access fault, and nothing is stored. -/
theorem test_host_memory :
    (after (hostOp (.store 0x20000000#32 .word 0x20000100#32) State.reset)).map (·.mem) =
      some [(0x20000000, 0x00#8), (0x20000001, 0x01#8), (0x20000002, 0x00#8), (0x20000003, 0x20#8)] ∧
    (after (hostOp (.load 0x20000000#32 .word) (withCh2 (Channel.atReset .ch2)))).map (·.resp) =
      some (.data 0x20000100#32) ∧
    (after (hostOp (.load 0x20000002#32 .word) State.reset)).map (·.faults) =
      some [.hostFault .misalignedMemory none] ∧
    (after (hostOp (.store 0x10000000#32 .word 5#32) State.reset)).map (fun t => (t.faults.length, t.mem)) =
      some (1, []) := by decide

/-- 30_encoding.md R133: a poll of a busy channel stays in the host's list, a poll of an idle one does not. -/
theorem test_poll :
    (turn .host { sample with hostQ := [.waitIdle .ch2] }).map (·.hostQ) = some [.waitIdle .ch2] ∧
    (turn .host { sample with hostQ := [.waitIdle .ch1] }).map (·.hostQ) = some [] ∧
    (turn .host { sample with hostQ := [.waitSeq] }).map (·.hostQ) = some [] := by decide

/-! ### A concrete state for the hypotheses of each statement -/

/-- An outcome whose next state passes a check is that next state. -/
theorem next_of {o : Host.Outcome State Fault Refusal} (P : State → Bool) (h : (after o).any P = true) :
    ∃ t, o = .next t ∧ P t = true := by
  cases o with
  | next t => exact ⟨t, rfl, by simpa [after] using h⟩
  | fault r => simp [after] at h
  | refused r => simp [after] at h

/-- An optional state that passes a check is there. -/
theorem some_of {o : Option State} (P : State → Bool) (h : o.any P = true) : ∃ t, o = some t ∧ P t = true := by
  cases o with
  | some t => exact ⟨t, rfl, by simpa using h⟩
  | none => simp at h

/-- The bytes of a pass, checked one by one. -/
theorem passMapped_of {p : Params} {a : Addr} {n : Nat}
    (h : ((List.range n).all fun k => isMemory p (addrAt a k)) = true) : passMapped p a n := by
  simpa [passMapped, List.all_eq_true] using h

/-- The block's invariant as a check. -/
def invCheck (s : State) : Bool :=
  s.mem.wf && s.mem.all (fun c => memMapped s.params (BitVec.ofNat 32 c.1)) &&
  [Chan.ch0, .ch1, .ch2].all (fun n => decide ((s.ch n).ctrl &&& ~~~ctrlBits = 0#32) &&
    (!Ctrl.busy (s.ch n).ctrl || (decide ((s.ch n).tcRemain ≠ 0#32) && Ctrl.configLegal (s.ch n).ctrl &&
      !Ctrl.err (s.ch n).ctrl))) &&
  decide (s.resClaim &&& ~~~resClaimMask = 0#32) && decide (s.genEnable &&& ~~~genEnableMask = 0#32) &&
  decide (s.imemUsed.toNat ≤ imemSize) && decide (s.pixQ.length ≤ s.params.pixDepth) &&
  [Gen.h, .v, .p].all (fun g => decide ((s.gen g).paramQ.length ≤ s.params.paramDepth) &&
    (!(s.gen g).latched || (s.gen g).loaded) &&
    (!decide (s.seqState = .idle ∨ s.seqState = .load) || !(s.gen g).loaded) &&
    (decide (s.seqState = .idle ∨ s.seqState = .load ∨ s.seqState = .failed) || (s.gen g).loaded)) &&
  decide (s.failCode ≠ .noFailure ↔ s.seqState = .failed)

/-- A state that passes the check has the invariant. -/
theorem inv_of {s : State} (h : invCheck s = true) : BlockInv s := by
  simp only [invCheck, List.all_cons, List.all_nil, Bool.and_true, Bool.and_eq_true, Bool.or_eq_true,
    Bool.not_eq_true', decide_eq_true_eq, decide_eq_false_iff_not, List.all_eq_true] at h
  obtain ⟨⟨⟨⟨⟨⟨⟨⟨hm, hmm⟩, ⟨c0, b0⟩, ⟨c1, b1⟩, c2, b2⟩, hr⟩, hg⟩, hi⟩, hp⟩, ⟨⟨⟨p0, l0⟩, u0⟩, v0⟩,
    ⟨⟨⟨p1, l1⟩, u1⟩, v1⟩, ⟨⟨p2, l2⟩, u2⟩, v2⟩, hf⟩ := h
  have busy : ∀ n, Ctrl.busy (s.ch n).ctrl = true →
      ((s.ch n).tcRemain ≠ 0#32 ∧ Ctrl.configLegal (s.ch n).ctrl = true) ∧ Ctrl.err (s.ch n).ctrl = false := by
    intro n hb
    cases n
    · exact b0.resolve_left (by rw [hb]; decide)
    · exact b1.resolve_left (by rw [hb]; decide)
    · exact b2.resolve_left (by rw [hb]; decide)
  exact {
    memWf := hm, memMappedOnly := hmm, ctrlReserved := fun n => by cases n <;> assumption
    busyLegal := fun n hb => ⟨(busy n hb).1.1, (busy n hb).1.2, (busy n hb).2⟩
    resClaimReserved := hr, genEnableReserved := hg, imemBound := hi, pixBound := hp
    paramBound := fun g => by cases g <;> assumption
    latchedLoaded := fun g hl => by
      cases g
      · exact l0.resolve_left (by rw [hl]; decide)
      · exact l1.resolve_left (by rw [hl]; decide)
      · exact l2.resolve_left (by rw [hl]; decide)
    failCodeIffFailed := hf
    unloadedBefore := fun hq g => by
      cases g
      · exact u0.resolve_left (fun hn => hn hq)
      · exact u1.resolve_left (fun hn => hn hq)
      · exact u2.resolve_left (fun hn => hn hq)
    loadedAfter := fun h1 h2 h3 g => by
      have hn : ¬ (s.seqState = .idle ∨ s.seqState = .load ∨ s.seqState = .failed) := by simp [h1, h2, h3]
      cases g
      · exact v0.resolve_left hn
      · exact v1.resolve_left hn
      · exact v2.resolve_left hn }

/-- The state with a host access next, and the host next in turn. -/
def hostNext (op : HostOp) (s : State) : State := { s with sched := [.host], hostQ := [op] }

/-- `DecodeOfEncode`: the widest values of the narrow writes. -/
theorem witness_DecodeOfEncode : (Instr.wrPixTxfB 0xFF#32).wf = true ∧ (Instr.wrPixTxfH 0xFFFF#32).wf = true := by decide

/-- `EncodeOfDecode`: a read, and a write of each size, with every bit of the data word set. -/
theorem witness_EncodeOfDecode :
    decode ⟨0x2320#16, 0xFFFFFFFF#32⟩ = .ok .rdSeqStatus ∧
    decode ⟨0x8210#16, 0xFFFFFFFF#32⟩ = .ok (.wrPixTxfB 0xFF#32) ∧
    decode ⟨0x9210#16, 0xFFFFFFFF#32⟩ = .ok (.wrPixTxfH 0xFFFF#32) ∧
    decode ⟨0xA210#16, 0xFFFFFFFF#32⟩ = .ok (.wrPixTxfW 0xFFFFFFFF#32) := by decide

/-- `DecoderInOrder`: a header for each of its cases, the last with the first and the last defined offset. -/
theorem witness_DecoderInOrder :
    (0x6000#16 : BitVec 16).getLsbD 14 = true ∧ (0xB000#16 : BitVec 16).extractLsb' 12 2 = 3#2 ∧
    (0x1324#16 : BitVec 16).extractLsb' 12 2 = 1#2 ∧ (0x324#12 : BitVec 12) ∉ definedOffsets ∧
    (0x000#12 : BitVec 12) ∈ definedOffsets ∧ (0x320#12 : BitVec 12) ∈ definedOffsets := by decide

/-- `StepRunsTransaction`: a transaction that decodes, one that is rejected, and a word of the table. -/
theorem witness_StepRunsTransaction :
    nextAgent (hostNext (.bus ⟨0xA108#16, 1#32⟩) sample) = .host ∧
    (hostNext (.bus ⟨0xA108#16, 1#32⟩) sample).hostQ = [.bus ⟨0xA108#16, 1#32⟩] ∧
    decode ⟨0xA108#16, 1#32⟩ = .ok (.wrResClaim 1#32) ∧
    nextAgent (hostNext (.bus ⟨0x0108#16, 1#32⟩) sample) = .host ∧
    decode ⟨0x0108#16, 1#32⟩ = .error .narrowRead ∧
    decodeTableWord 48 0x00000001A108 = some (.wrResClaim 1#32) := by decide

/-- `IdleTurnChangesNothing`: after reset the sequencer has no step, and neither has a silent host. -/
theorem witness_IdleTurnChangesNothing :
    agentEnabled (nextAgent { State.reset with sched := [.seq] }) { State.reset with sched := [.seq] } = false ∧
    agentEnabled (nextAgent { State.reset with sched := [.host] }) { State.reset with sched := [.host] } = false := by
  decide

/-- `MemoryBytesAndFrame`: an address just past a stored word, and a byte that has been written. -/
theorem witness_MemoryBytesAndFrame :
    (∀ i, i < Size.word.bytes → 0x20000004 ≠ (addrAt 0x20000000#32 i).toNat) ∧
    (withCh2 (Channel.atReset .ch2)).mem.read? (0x20000003#32 : Addr).toNat = some 0x20#8 := by decide

/-- `DecodedAccess`: the ends of the window, of the defined offsets and of the mapped memory. -/
theorem witness_DecodedAccess :
    (0x50000000#32 - exampleParams.sdbBase).toNat < 0x1000 ∧ (0x50000FFF#32 - exampleParams.sdbBase).toNat < 0x1000 ∧
    ¬ (0x50001000#32 - exampleParams.sdbBase).toNat < 0x1000 ∧
    ¬ (0x4FFFFFFF#32 - exampleParams.sdbBase).toNat < 0x1000 ∧
    (0x50000320#32 - exampleParams.sdbBase).setWidth 12 ∈ definedOffsets ∧
    (0x50000324#32 - exampleParams.sdbBase).setWidth 12 ∉ definedOffsets ∧
    (0x50000210#32 - exampleParams.sdbBase).setWidth 12 = 0x210#12 ∧
    (∀ i, i < Size.word.bytes → memMapped exampleParams (addrAt 0x2003FFFC#32 i) = true) ∧
    ¬ (∀ i, i < Size.word.bytes → memMapped exampleParams (addrAt 0x2003FFFD#32 i) = true) := by decide

/-- `ChannelAccessIsHostAccess`: a window address for each way the host's decoder can answer. -/
theorem witness_ChannelAccessIsHostAccess :
    inWindow exampleParams 0x50000210#32 = true ∧
    decode ⟨mkHeader true .byte (windowOffset exampleParams 0x50000210#32), 0x104#32⟩ = .ok (.wrPixTxfB 4#32) ∧
    decode ⟨mkHeader false .byte (windowOffset exampleParams 0x50000210#32), 0#32⟩ = .error .narrowRead ∧
    inWindow exampleParams 0x50000324#32 = true ∧
    decode ⟨mkHeader true .word (windowOffset exampleParams 0x50000324#32), 0#32⟩ = .error .undefinedOffset ∧
    inWindow exampleParams 0x50000320#32 = true ∧
    decode ⟨mkHeader false .word (windowOffset exampleParams 0x50000320#32), 0#32⟩ = .ok .rdSeqStatus := by decide

/-- `HostLoadsAndStores`: the last mapped word, a misaligned word, one both misaligned and unmapped, and the first unmapped
word. -/
theorem witness_HostLoadsAndStores :
    inWindow exampleParams 0x2003FFFC#32 = false ∧ (0x2003FFFC#32 : Addr).toNat % Size.word.bytes = 0 ∧
    allMapped exampleParams 0x2003FFFC#32 .word = true ∧
    inWindow exampleParams 0x2003FFFE#32 = false ∧ (0x2003FFFE#32 : Addr).toNat % Size.word.bytes ≠ 0 ∧
    inWindow exampleParams 0x20040002#32 = false ∧ (0x20040002#32 : Addr).toNat % Size.word.bytes ≠ 0 ∧
    inWindow exampleParams 0x20040000#32 = false ∧ (0x20040000#32 : Addr).toNat % Size.word.bytes = 0 ∧
    allMapped exampleParams 0x20040000#32 .word = false := by decide

/-- `SynchronisedStart`: two enables that rise in one write, in writes of different steps, and in the enable phase. -/
theorem witness_SynchronisedStart :
    (∃ t, exec (.wrGenEnable 7#32) State.reset = .next t ∧ true = true) ∧
    (∃ t, exec (.wrGenEnable 7#32) { State.reset with stepNo := 1 } = .next t ∧ true = true) ∧
    State.reset.stepNo ≠ ({ State.reset with stepNo := 1 } : State).stepNo ∧
    enableRises State.reset.genEnable 7#32 .h = true ∧ enableRises State.reset.genEnable 7#32 .p = true ∧
    (∃ t, step { configured .enable 0x73#32 with sched := [.seq] } = .next t ∧ true = true) ∧
    nextAgent { configured .enable 0x73#32 with sched := [.seq] } = .seq ∧
    (configured .enable 0x73#32).seqState = .enable ∧ (configured .enable 0x73#32).genEnable = 0#32 :=
  ⟨next_of (fun _ => true) (by decide), next_of (fun _ => true) (by decide), by decide, by decide, by decide,
    next_of (fun _ => true) (by decide), by decide, by decide, by decide⟩

/-- `ReadGeneratorStatus`: queues of the greatest lengths the fields can show. -/
theorem witness_ReadGeneratorStatus :
    (List.replicate 15 0#8).length ≤ 15 ∧ (List.replicate 7 0#32).length ≤ 7 := by decide

/-- `InstructionMemoryUsed`, `SequencerConfigRegisters`, `WriteSequencerControl`: an idle and a started sequencer, and a
value with bit 0 set and one with it clear. -/
theorem witness_sequencer_writes :
    State.reset.seqState = .idle ∧ sample.seqState ≠ .idle ∧ (1#32 : Word).getLsbD 0 = true ∧
    (0xFFFFFFFE#32 : Word).getLsbD 0 = false := by decide

/-- `NoReadHasASideEffect`: a read instruction, a host load that returns a value, and one that is a host-access fault. -/
theorem witness_NoReadHasASideEffect :
    Instr.rdPixTxf.access.2 = .read ∧
    (∃ t, hostOp (.load 0x20000000#32 .word) State.reset = .next t ∧ t.faults = []) ∧
    (∃ t, hostOp (.load 0x10000000#32 .word) State.reset = .next t ∧ t.faults.length = 1) :=
  ⟨by decide, ⟨_, rfl, rfl⟩, ⟨_, rfl, rfl⟩⟩

/-- `IdempotentWrites`: a repeatable write that completes. -/
theorem witness_IdempotentWrites :
    (Instr.wrGenEnable 7#32).access = (.genEnable, .write .word 7#32) ∧ idempotentWrite .genEnable = true ∧
    ∃ t, exec (.wrGenEnable 7#32) State.reset = .next t ∧ decide (t.faults.length = 3) = true :=
  ⟨by decide, by decide, next_of _ (by decide)⟩

/-- `TriggerCases`: for each case a channel 2, the illegal ones each one past a legal field, the legal one at the top of
every field. -/
theorem witness_TriggerCases :
    let ready := fun c : Word => c.getLsbD 24 = false ∧
      ¬ (c.getLsbD 29 = true ∨ c.getLsbD 30 = true ∨ c.getLsbD 31 = true) ∧ c.getLsbD 0 = true
    let legal := fun c : Word => Ctrl.dataSize c ≠ 3#2 ∧ (Ctrl.chainTo c).toNat ≤ 2 ∧ (Ctrl.treqSel c).toNat ≤ 1
    (0x01000221#32 : Word).getLsbD 24 = true ∧ (0x40000221#32 : Word).getLsbD 30 = true ∧
    (0x00000220#32 : Word).getLsbD 0 = false ∧
    (ready 0x0000020D#32 ∧ ¬ legal 0x0000020D#32) ∧ (ready 0x00000321#32 ∧ ¬ legal 0x00000321#32) ∧
    (ready 0x00002221#32 ∧ ¬ legal 0x00002221#32) ∧ (ready 0x00001209#32 ∧ legal 0x00001209#32) := by decide

/-- The hypotheses `ReadPhase` and `WritePhase` share, for channel 2. -/
def acting (ph : Phase) (sz : Size) (s : State) : Prop :=
  nextAgent s = .chan .ch2 ∧ Ctrl.busy s.ch2.ctrl = true ∧ Ctrl.en s.ch2.ctrl = true ∧ s.ch2.phase = ph ∧
  Ctrl.dataSize s.ch2.ctrl = sz.code ∧ (Ctrl.chainTo s.ch2.ctrl).toNat ≤ 2

/-- Channel 2 with the turn. -/
def ch2Turn (c : Channel) : State := { withCh2 c with sched := [.chan .ch2] }

/-- `ReadPhase`: a misaligned read, an unmapped read, and a read of the last mapped word by a paced channel with one
place left in the pixel queue. -/
theorem witness_ReadPhase :
    let s1 := ch2Turn ⟨0x20000002#32, 0#32, 1#32, 1#32, 0x01000209#32, .read, 0#32⟩
    let s2 := ch2Turn ⟨0x20040000#32, 0#32, 1#32, 1#32, 0x01000221#32, .read, 0#32⟩
    let s3 := { ch2Turn ⟨0x20000000#32, 0#32, 1#32, 1#32, 0x01001209#32, .read, 0#32⟩ with pixQ := [1#8, 2#8, 3#8] }
    (acting .read .word s1 ∧ Ctrl.treqSel s1.ch2.ctrl = 0#2 ∧ s1.ch2.readAddr.toNat % Size.word.bytes ≠ 0) ∧
    (acting .read .byte s2 ∧ Ctrl.treqSel s2.ch2.ctrl = 0#2 ∧ busRead s2.ch2.readAddr .byte s2 = none) ∧
    (acting .read .word s3 ∧ Ctrl.treqSel s3.ch2.ctrl = 1#2 ∧ s3.pixQ.length < s3.params.pixDepth ∧
      s3.ch2.readAddr.toNat % Size.word.bytes = 0 ∧ busRead s3.ch2.readAddr .word s3 = some 0x20000100#32) := by
  unfold acting
  decide

/-- `WritePhase`: a misaligned write, an undefined register, an element that is not the last, and a last one that chains to
its own channel or to another. -/
theorem witness_WritePhase :
    let s1 := ch2Turn ⟨0#32, 0x20001001#32, 2#32, 2#32, 0x01000225#32, .write, 0xBEEF#32⟩
    let s2 := ch2Turn ⟨0#32, 0x50000324#32, 2#32, 2#32, 0x01000209#32, .write, 0#32⟩
    let s3 := ch2Turn ⟨0#32, 0x2003FFFF#32, 2#32, 2#32, 0x01000221#32, .write, 7#32⟩
    let s4 := ch2Turn ⟨0#32, 0x20001000#32, 1#32, 1#32, 0x01000221#32, .write, 7#32⟩
    let s5 := ch2Turn ⟨0#32, 0x20001000#32, 1#32, 1#32, 0x01000021#32, .write, 7#32⟩
    (acting .write .half s1 ∧ s1.ch2.writeAddr.toNat % Size.half.bytes ≠ 0) ∧
    (acting .write .word s2 ∧ busWrite s2.ch2.writeAddr .word s2.ch2.hold (takeTurn s2) = none) ∧
    (acting .write .byte s3 ∧ s3.ch2.writeAddr.toNat % Size.byte.bytes = 0 ∧
      ∃ w, busWrite s3.ch2.writeAddr .byte s3.ch2.hold (takeTurn s3) = some w ∧ decide (w.ch2.tcRemain ≠ 1#32) = true) ∧
    (acting .write .byte s4 ∧ ∃ w, busWrite s4.ch2.writeAddr .byte s4.ch2.hold (takeTurn s4) = some w ∧
      decide (w.ch2.tcRemain = 1#32 ∧ (Ctrl.chainTo w.ch2.ctrl).toNat = Chan.index .ch2) = true) ∧
    (acting .write .byte s5 ∧ ∃ w, busWrite s5.ch2.writeAddr .byte s5.ch2.hold (takeTurn s5) = some w ∧
      decide (w.ch2.tcRemain = 1#32 ∧ (Ctrl.chainTo w.ch2.ctrl).toNat = Chan.index .ch0) = true) := by
  refine ⟨?_, ?_, ⟨?_, ?_, some_of _ ?_⟩, ⟨?_, some_of _ ?_⟩, ⟨?_, some_of _ ?_⟩⟩ <;>
    first | decide | (unfold acting; decide)

/-- `ElementWriteFrame`: a word to the last mapped word, and an address just past it. -/
theorem witness_ElementWriteFrame :
    let s := ch2Turn ⟨0#32, 0x2003FFFC#32, 2#32, 2#32, 0x01000029#32, .write, 7#32⟩
    acting .write .word s ∧ aligned s.ch2.writeAddr .word = true ∧ inWindow s.params s.ch2.writeAddr = false ∧
    allMapped s.params s.ch2.writeAddr .word = true ∧ s.ch2.tcRemain ≠ 1#32 ∧
    (∀ i, i < Size.word.bytes → 0x2003FFFB ≠ (addrAt s.ch2.writeAddr i).toNat) := by
  unfold acting
  decide

/-- `StallAndPause`: a paused channel, a paced one with the pixel queue just full, and one that may go on. -/
theorem witness_StallAndPause :
    let paused := ch2Turn ⟨0#32, 0#32, 2#32, 2#32, 0x01000220#32, .write, 0#32⟩
    let stalled := { ch2Turn ⟨0#32, 0#32, 2#32, 2#32, 0x01001221#32, .read, 0#32⟩ with pixQ := full.pixQ }
    let going := { ch2Turn ⟨0#32, 0#32, 2#32, 2#32, 0x01001221#32, .write, 0#32⟩ with pixQ := full.pixQ }
    (Ctrl.en paused.ch2.ctrl = false ∧ nextAgent paused = .chan .ch2 ∧ chEnabled .ch2 paused = false) ∧
    (stalled.ch2.phase = .read ∧ Ctrl.treqSel stalled.ch2.ctrl = 1#2 ∧
      stalled.params.pixDepth ≤ stalled.pixQ.length ∧ chEnabled .ch2 stalled = false) ∧
    (Ctrl.busy going.ch2.ctrl = true ∧ Ctrl.en going.ch2.ctrl = true ∧ going.ch2.phase = .write) := by decide

/-- `HowAChannelStarts`: a start by the host, by a chain, and by the arm phase. -/
theorem witness_HowAChannelStarts :
    (Ctrl.busy threeChannels.ch2.ctrl = false ∧
      (∃ t, step (hostNext (.bus ⟨0xA100#16, 4#32⟩) threeChannels) = .next t ∧ Ctrl.busy t.ch2.ctrl = true) ∧
      (∃ t, exec (.wrMultiTrig 4#32) threeChannels = .next t ∧ Ctrl.busy t.ch2.ctrl = true)) ∧
    (∃ t, step { ch2Turn ⟨0#32, 0x20001000#32, 1#32, 1#32, 0x01000021#32, .write, 7#32⟩ with
        ch0 := ⟨0#32, 0#32, 1#32, 0#32, 0x00000101#32, .read, 0#32⟩ } = .next t ∧
      Ctrl.busy t.ch0.ctrl = true) ∧
    (∃ t, step { configured .arm 0x73#32 with
        sched := [.seq], ch0 := ⟨0#32, 0#32, 1#32, 0#32, 0x00000101#32, .read, 0#32⟩ } = .next t ∧
      Ctrl.busy t.ch0.ctrl = true) :=
  ⟨⟨by decide, next_of (fun t => Ctrl.busy t.ch2.ctrl) (by decide), next_of (fun t => Ctrl.busy t.ch2.ctrl) (by decide)⟩,
    next_of (fun t => Ctrl.busy t.ch0.ctrl) (by decide), next_of (fun t => Ctrl.busy t.ch0.ctrl) (by decide)⟩

/-- `GeneratorSteps`, `LatchedOnce`: a generator with two parameters, a latched pixel generator with two bytes queued, and a
generator without a program. -/
theorem witness_GeneratorSteps :
    let s := { State.reset with
      genEnable := 2#32, sched := [.gen .v]
      genV := { Generator.atReset with loaded := true, paramQ := [0x1E0#32, 0x99#32] } }
    let u := { State.reset with
      genEnable := 4#32, sched := [.gen .p], pixQ := [4#8, 2#8]
      genP := { Generator.atReset with loaded := true, latched := true } }
    (nextAgent s = .gen .v ∧ s.genEnable.getLsbD (Gen.index .v) = true ∧ (s.gen .v).loaded = true ∧
      (s.gen .v).latched = false ∧ (s.gen .v).paramQ = [0x1E0#32, 0x99#32]) ∧
    (nextAgent u = .gen .p ∧ u.genEnable.getLsbD 2 = true ∧ u.genP.loaded = true ∧ u.genP.latched = true ∧
      u.pixQ = [4#8, 2#8]) ∧
    (nextAgent { State.reset with genEnable := 4#32, sched := [.gen .p] } = .gen .p ∧
      ¬ (State.reset.genP.loaded = true)) ∧
    ∃ t, step u = .next t ∧ t.pixOut = [4#8] :=
  ⟨by decide, by decide, by decide, ⟨_, rfl, rfl⟩⟩

/-- `PixelsInOrder`: a step that pushes a byte. -/
theorem witness_PixelsInOrder :
    ∃ t, step (hostNext (.bus ⟨0x8210#16, 7#32⟩) almostFull) = .next t ∧ decide (t.pixQ = [1#8, 2#8, 3#8, 7#8]) = true :=
  next_of _ (by decide)

/-- `SequencerLoad`: for each clause, the programs of lengths 5, 5, 6 just failing to fit, and just fitting. -/
theorem witness_SequencerLoad :
    let s := fun u : Word => { State.reset with seqState := .load, sched := [.seq], imemUsed := u }
    nextAgent (s 28#32) = .seq ∧ (s 28#32).seqState = .load ∧
    32 < (28#32 : Word).toNat + exampleParams.progLenH ∧
    (23#32 : Word).toNat + exampleParams.progLenH ≤ 32 ∧
    32 < (23#32 : Word).toNat + exampleParams.progLenH + exampleParams.progLenV ∧
    (17#32 : Word).toNat + exampleParams.progLenH + exampleParams.progLenV ≤ 32 ∧
    32 < (17#32 : Word).toNat + exampleParams.progLenH + exampleParams.progLenV + exampleParams.progLenP ∧
    (16#32 : Word).toNat + exampleParams.progLenH + exampleParams.progLenV + exampleParams.progLenP ≤ 32 := by decide

/-- `SequencerAssignConfig`: each phase with a claim that stands in its way and with one that does not. -/
theorem witness_SequencerAssignConfig :
    let s := fun q c => { configured q c with sched := [.seq] }
    nextAgent (s .assign 0x40#32) = .seq ∧ (s .assign 0x40#32).seqState = .assign ∧
    (s .assign 0x40#32).resClaim.getLsbD 6 = true ∧
    ((s .assign 0x87#32).resClaim.getLsbD 4 || (s .assign 0x87#32).resClaim.getLsbD 5 ||
      (s .assign 0x87#32).resClaim.getLsbD 6) = false ∧
    nextAgent (s .config 0x72#32) = .seq ∧ (s .config 0x72#32).seqState = .config ∧
    (s .config 0x72#32).resClaim.getLsbD 1 = true ∧
    ((s .config 0xF4#32).resClaim.getLsbD 0 || (s .config 0xF4#32).resClaim.getLsbD 1) = false := by decide

/-- `SequencerParamEnableArm`: the sequencer with the turn in each of the three phases, with the invariant. -/
theorem witness_SequencerParamEnableArm :
    let s := fun q => { configured q 0x73#32 with sched := [.seq] }
    (nextAgent (s .param) = .seq ∧ (s .param).seqState = .param) ∧
    (BlockInv (s .enable) ∧ nextAgent (s .enable) = .seq ∧ (s .enable).seqState = .enable) ∧
    (nextAgent (s .arm) = .seq ∧ (s .arm).seqState = .arm) :=
  ⟨by decide, ⟨inv_of (by decide), by decide⟩, by decide⟩

/-- `SequencerTerminal`: a step from RUNNING, one from FAILED, and one from IDLE to IDLE. -/
theorem witness_SequencerTerminal :
    let s := fun q => hostNext (.bus ⟨0xA31C#16, 1#32⟩) { State.reset with seqState := q }
    (∃ t, step (s .running) = .next t ∧ decide (t.doubleStart = true) = true) ∧
    (∃ t, step (s .failed) = .next t ∧ decide (t.doubleStart = true) = true) ∧
    (∃ t, step (hostNext (.bus ⟨0xA31C#16, 0#32⟩) State.reset) = .next t ∧ decide (t.seqState = .idle) = true) :=
  ⟨next_of _ (by decide), next_of _ (by decide), next_of _ (by decide)⟩

/-- A state whose load phase is about to fail. -/
def failingStart : State := { State.reset with seqState := .load, imemUsed := 32#32, sched := [.seq] }

/-- The state that load phase leaves, `k` steps after reset. -/
def failedStart (k : Nat) : State :=
  { State.reset with seqState := .failed, failCode := .imemExhausted, imemUsed := 32#32, stepNo := k }

/-- A run whose start fails, after which no agent has an enabled step. -/
def failingRun : Nat → State
  | 0 => failingStart
  | k + 1 => failedStart (k + 1)

/-- No channel is busy in it. -/
theorem failedStart_chan (n : Chan) (k : Nat) : chEnabled n (failedStart k) = false := by
  cases n <;> simp [chEnabled, failedStart, State.ch, State.reset, State.powerOn, Channel.atReset, Ctrl.busy, Chan.index]

/-- No generator is enabled in it. -/
theorem failedStart_gen (g : Gen) (k : Nat) : genEnabled (failedStart k) g = false := by
  simp [genEnabled, failedStart, State.reset, State.powerOn]

/-- No agent has an enabled step in it. -/
theorem failedStart_idle (a : Agent) (k : Nat) : agentEnabled a (failedStart k) = false := by
  rcases a with _ | n | g | _
  · rfl
  · exact failedStart_chan n k
  · simp [agentEnabled, latchEnabled, pixPopEnabled, failedStart_gen]
  · rfl

/-- Whoever has the turn, only the step is counted. -/
theorem failedStart_step (k : Nat) : step (failedStart k) = .next (failedStart (k + 1)) := by
  have ht : takeTurn (failedStart k) = failedStart k := rfl
  unfold step stepOnce
  rw [ht]
  rcases nextAgent (failedStart k) with _ | n | g | _
  · rfl
  · simp only [agentStep, chStep, failedStart_chan, if_true, counted]
    rfl
  · have hg : genStep g (failedStart k) = failedStart k := by
      simp [genStep, latchEnabled, pixPopEnabled, failedStart_gen]
    simp only [agentStep, hg, counted]
    rfl
  · rfl

/-- `StartupEnds`: a started sequencer with six turns among the host's, and a weakly fair run whose start is made. -/
theorem witness_StartupEnds :
    (∃ t, core.run [Agent.host, .seq, .seq, .seq, .seq, .seq, .seq].length
        (({ State.reset with seqState := .load } : State).withTurns
          [.host, .seq, .seq, .seq, .seq, .seq, .seq]) = .next t ∧ decide (t.seqState = .running) = true) ∧
    6 ≤ [Agent.host, .seq, .seq, .seq, .seq, .seq, .seq].count .seq ∧
    IsRun failingRun ∧ WeaklyFair failingRun ∧ (failingRun 0).seqState ≠ .idle := by
  refine ⟨next_of _ (by decide), by decide, ?_, ?_, by decide⟩
  · intro k
    cases k with
    | zero => rfl
    | succ k => exact failedStart_step (k + 1)
  · intro a k h
    have h1 := h (k + 1) (by omega)
    rw [show failingRun (k + 1) = failedStart (k + 1) from rfl, failedStart_idle] at h1
    exact absurd h1 (by decide)

/-- `StartupOutcome`: a load phase with the invariant whose start succeeds, and one whose start fails. -/
theorem witness_StartupOutcome :
    let s := { State.reset with seqState := .load, imemUsed := 16#32, resClaim := 0x84#32 }
    (BlockInv s ∧ s.seqState = .load ∧
      ∃ t, core.run 6 (s.withTurns (List.replicate 6 .seq)) = .next t ∧ decide (t.seqState = .running) = true) ∧
    (BlockInv failingStart ∧ failingStart.seqState = .load ∧
      ∃ t, core.run 6 (failingStart.withTurns (List.replicate 6 .seq)) = .next t ∧
        decide (t.seqState = .failed) = true) :=
  ⟨⟨inv_of (by decide), by decide, next_of _ (by decide)⟩, ⟨inv_of (by decide), by decide, next_of _ (by decide)⟩⟩

/-- `ResetValues`: the example parameters meet its condition. -/
theorem witness_ResetValues : 1 ≤ exampleParams.pixDepth := by decide

/-- `QuiescentAfterReset`: an agent that is not the host. -/
theorem witness_QuiescentAfterReset : Agent.seq ≠ .host := by decide

/-- A running scanout of the two bytes 4 and 5, descriptor A about to begin its pass. -/
def streaming : State :=
  { configured .running 0x73#32 with
    ch0 := ⟨0x20000100#32, 0x50000210#32, 2#32, 2#32, 0x01001111#32, .read, 0#32⟩
    ch1 := ⟨0x20000000#32, 0x50000000#32, 1#32, 0#32, 0x00000009#32, .read, 0#32⟩
    genEnable := 7#32, genP := { Generator.atReset with loaded := true, latched := true }
    mem := [(0x20000000, 0x00#8), (0x20000001, 0x01#8), (0x20000002, 0x00#8), (0x20000003, 0x20#8),
            (0x20000100, 0x04#8), (0x20000101, 0x05#8)] }

/-- The same scanout between two passes, descriptor B about to re-arm A. -/
def rearming : State :=
  { streaming with
    ch0 := ⟨0x20000102#32, 0x50000210#32, 2#32, 0#32, 0x00001111#32, .read, 5#32⟩
    ch1 := ⟨0x20000000#32, 0x50000000#32, 1#32, 1#32, 0x01000009#32, .read, 0#32⟩ }

/-- Whether channels 0 and 1 are A and B does not depend on the turns or on the host. -/
theorem wired_turns {s : State} (h : ScanoutWired s) (l : List Agent) (q : List HostOp) :
    ScanoutWired { s with sched := l, hostQ := q } :=
  ⟨h.ctrlOfA, h.destOfA, h.countOfA, h.ctrlOfB, h.sourceOfB, h.cellMapped, h.destOfB, h.countOfB⟩

/-- Channels 0 and 1 of the running scanout are A and B. -/
theorem streaming_wired : ScanoutWired streaming :=
  ⟨by decide, by decide, by decide, by decide, by decide, passMapped_of (by decide), by decide, by decide⟩

/-- And so they are between two passes. -/
theorem rearming_wired : ScanoutWired rearming :=
  ⟨by decide, by decide, by decide, by decide, by decide, passMapped_of (by decide), by decide, by decide⟩

/-- `BlockInvKept`, `StepsGoOn`: a scanout with the invariant, about to take a step. -/
theorem witness_BlockInvKept :
    BlockInv { streaming with sched := [.chan .ch0] } ∧
    ∃ t, step { streaming with sched := [.chan .ch0] } = .next t ∧ decide (t.ch0.hold = 4#32) = true :=
  ⟨inv_of (by decide), next_of _ (by decide)⟩

/-- `ErrorsAreForever`: a step of a state with every error and every sticky flag, the failed channels idle. -/
theorem witness_ErrorsAreForever :
    let s := hostNext (.bus ⟨0xA100#16, 7#32⟩) { State.reset with
      ch0 := { Channel.atReset .ch0 with ctrl := 0x20000001#32 }
      ch1 := { Channel.atReset .ch1 with ctrl := 0x40000001#32 }
      ch2 := { Channel.atReset .ch2 with ctrl := 0x80000001#32 }
      pixTxOver := true, paramOver := true, noprogErr := true, doubleStart := true }
    (Ctrl.cfgErr s.ch0.ctrl = true ∧ Ctrl.readErr s.ch1.ctrl = true ∧ Ctrl.writeErr s.ch2.ctrl = true ∧
      Ctrl.err s.ch2.ctrl = true ∧ Ctrl.busy s.ch2.ctrl = false) ∧
    ∃ t, step s = .next t ∧ decide (t.resp = .ack) = true :=
  ⟨by decide, next_of _ (by decide)⟩

/-- `FillResult`: program P1. -/
theorem witness_FillResult :
    let s := { State.reset with
      hostQ := fillProc 0x20001000#32 4#8 4#32 0x20000004#32
      sched := List.replicate 7 Agent.host ++ List.replicate 8 (Agent.chan .ch2) ++ [Agent.host] }
    Ctrl.busy s.ch2.ctrl = false ∧ Ctrl.err s.ch2.ctrl = false ∧ (4#32 : Word) ≠ 0#32 ∧
    isMemory s.params 0x20000004#32 = true ∧ passMapped s.params 0x20001000#32 (4#32 : Word).toNat ∧
    s.hostQ = fillProc 0x20001000#32 4#8 4#32 0x20000004#32 ++ [] ∧
    s.sched = List.replicate 7 Agent.host ++ List.replicate (2 * (4#32 : Word).toNat) (.chan .ch2) ++ [.host] :=
  ⟨by decide, by decide, by decide, by decide, passMapped_of (by decide), by decide, by decide⟩

/-- `CopyResult`: program P2, its three bytes in memory. -/
theorem witness_CopyResult :
    let s := { State.reset with
      mem := [(0x20001000, 0x11#8), (0x20001001, 0x22#8), (0x20001002, 0x33#8)]
      hostQ := copyProc 0x20002000#32 0x20001000#32 3#32
      sched := List.replicate 6 Agent.host ++ List.replicate 6 (Agent.chan .ch2) ++ [Agent.host] }
    Ctrl.busy s.ch2.ctrl = false ∧ Ctrl.err s.ch2.ctrl = false ∧ (3#32 : Word) ≠ 0#32 ∧
    passMapped s.params 0x20001000#32 (3#32 : Word).toNat ∧ passMapped s.params 0x20002000#32 (3#32 : Word).toNat ∧
    (∀ i, i < (3#32 : Word).toNat → ∃ b, s.mem.read? (addrAt 0x20001000#32 i).toNat = some b) ∧
    s.hostQ = copyProc 0x20002000#32 0x20001000#32 3#32 ++ [] ∧
    s.sched = List.replicate 6 Agent.host ++ List.replicate (2 * (3#32 : Word).toNat) (.chan .ch2) ++ [.host] := by
  refine ⟨by decide, by decide, by decide, passMapped_of (by decide), passMapped_of (by decide), ?_, by decide, by decide⟩
  intro i hi
  rcases i with _ | _ | _ | i
  · exact ⟨0x11#8, by decide⟩
  · exact ⟨0x22#8, by decide⟩
  · exact ⟨0x33#8, by decide⟩
  · exact absurd hi (by simp)

/-- `CopyOfNothing`: the copy of program P5. -/
theorem witness_CopyOfNothing :
    let s := { State.reset with
      hostQ := copyProc 0x20002000#32 0x20001000#32 0#32, sched := List.replicate 7 Agent.host }
    Ctrl.busy s.ch2.ctrl = false ∧ Ctrl.err s.ch2.ctrl = false ∧
    s.hostQ = copyProc 0x20002000#32 0x20001000#32 0#32 ++ [] ∧ s.sched = List.replicate 7 Agent.host := by decide

/-- `ScanoutPass`: the pass of the two bytes 4 and 5. -/
theorem witness_ScanoutPass :
    let s := { streaming with sched := repeatTurns 2 [.chan .ch0, .chan .ch0, .gen .p] }
    let bytes := [4#8, 5#8]
    ScanoutWired s ∧ Ctrl.busy s.ch0.ctrl = true ∧ Ctrl.busy s.ch1.ctrl = false ∧ s.ch0.phase = .read ∧
    s.ch0.readAddr = 0x20000100#32 ∧ s.ch0.tcRemain = BitVec.ofNat 32 bytes.length ∧ bytes ≠ [] ∧
    bytes.length < 2 ^ 32 ∧ passMapped s.params 0x20000100#32 bytes.length ∧
    (∀ k (h : k < bytes.length), s.mem.read? (addrAt 0x20000100#32 k).toNat = some bytes[k]) ∧
    s.pixQ = [] ∧ 1 ≤ s.params.pixDepth ∧ s.genEnable.getLsbD 2 = true ∧ s.genP.loaded = true ∧
    s.genP.latched = true ∧ s.sched = repeatTurns bytes.length [.chan .ch0, .chan .ch0, .gen .p] :=
  ⟨wired_turns streaming_wired _ [], by decide, by decide, by decide, by decide, by decide, by decide, by decide,
    passMapped_of (by decide), by decide, by decide, by decide, by decide, by decide, by decide, by decide⟩

/-- `Rearm`: the scanout between two passes. -/
theorem witness_Rearm :
    let s := { rearming with sched := [.chan .ch1, .chan .ch1] }
    ScanoutWired s ∧ s.params.legal = true ∧ Ctrl.busy s.ch0.ctrl = false ∧ Ctrl.busy s.ch1.ctrl = true ∧
    s.ch1.phase = .read ∧ s.ch1.tcRemain = 1#32 :=
  ⟨wired_turns rearming_wired _ [], by decide, by decide, by decide, by decide, by decide⟩

/-- `FramebufferRepeats`: two passes of the two bytes 4 and 5. -/
theorem witness_FramebufferRepeats :
    let s := { streaming with
      sched := repeatTurns 2 (repeatTurns 2 [.chan .ch0, .chan .ch0, .gen .p] ++ [.chan .ch1, .chan .ch1]) }
    let p : Addr := 0x20000100#32
    let bytes := [4#8, 5#8]
    ScanoutWired s ∧ s.params.legal = true ∧ Ctrl.busy s.ch0.ctrl = true ∧ Ctrl.busy s.ch1.ctrl = false ∧
    s.ch0.phase = .read ∧ s.ch0.readAddr = p ∧ s.ch0.tcRemain = s.ch0.tcReload ∧
    s.ch0.tcReload = BitVec.ofNat 32 bytes.length ∧ bytes.length < 2 ^ 32 ∧ passMapped s.params p bytes.length ∧
    (∀ j (h : j < bytes.length), s.mem.read? (addrAt p j).toNat = some bytes[j]) ∧
    (∀ j, j < 4 → s.mem.read? (addrAt s.ch1.readAddr j).toNat = some (p.extractLsb' (8 * j) 8)) ∧
    s.pixQ = [] ∧ s.genEnable.getLsbD 2 = true ∧ s.genP.loaded = true ∧ s.genP.latched = true :=
  ⟨wired_turns streaming_wired _ [], by decide, by decide, by decide, by decide, by decide, by decide, by decide, by decide,
    passMapped_of (by decide), by decide, by decide, by decide, by decide, by decide, by decide⟩

/-- `ChainAlternates`: a step of A in its pass, and B's read of a pointer cell that starts a pass of memory. -/
theorem witness_ChainAlternates :
    (∃ s, s.params.legal = true ∧ ChainRunning s ∧ Undisturbed s ∧
      (∃ t, step s = .next t ∧ decide (t.ch0.hold = 4#32) = true)) ∧
    (∃ s, s.params.legal = true ∧ ChainRunning s ∧ Undisturbed s ∧
      (∃ t, step s = .next t ∧ decide (t.ch1.hold = 0x20000100#32) = true)) := by
  refine ⟨⟨{ streaming with sched := [.chan .ch0] }, by decide, ?_, ?_, next_of _ (by decide)⟩,
    ⟨{ rearming with sched := [.chan .ch1] }, by decide, ?_, ?_, next_of _ (by decide)⟩⟩
  · exact ⟨rfl, wired_turns streaming_wired _ [], by decide, fun _ => ⟨by decide, passMapped_of (by decide)⟩,
      fun h => absurd h (by decide)⟩
  · exact ⟨fun h => absurd h (by decide), fun h => absurd h (by decide), fun h => absurd h (by decide)⟩
  · exact ⟨rfl, wired_turns rearming_wired _ [], by decide, fun h => absurd h (by decide),
      fun _ => ⟨by decide, fun h => absurd h (by decide)⟩⟩
  · exact ⟨fun h => absurd h (by decide), fun h => absurd h (by decide), fun _ _ => passMapped_of (by decide)⟩

/-- `ChainAlternates`: a host access that leaves the chain alone, between two passes. -/
theorem witness_ChainAlternates_host :
    let s := { rearming with sched := [.host], hostQ := [.bus ⟨0xA100#16, 4#32⟩] }
    s.params.legal = true ∧ ChainRunning s ∧ Undisturbed s ∧
    ∃ t, step s = .next t ∧ decide (t.resp = .ack) = true := by
  refine ⟨by decide, ?_, ?_, next_of _ (by decide)⟩
  · exact ⟨rfl, wired_turns rearming_wired _ _, by decide, fun h => absurd h (by decide),
      fun _ => ⟨by decide, fun h => absurd h (by decide)⟩⟩
  · refine ⟨fun _ op rest h => ?_, fun h => absurd h (by decide), fun h => absurd h (by decide)⟩
    cases h
    decide

/-- `ArmStartsChain`: the arm phase with A and B configured. -/
theorem witness_ArmStartsChain :
    let s := { streaming with
      ch0 := ⟨0x20000100#32, 0x50000210#32, 2#32, 0#32, 0x00001111#32, .read, 0#32⟩, seqState := .arm, sched := [.seq] }
    nextAgent s = .seq ∧ s.seqState = .arm ∧ ScanoutWired s ∧ Ctrl.busy s.ch0.ctrl = false ∧
    Ctrl.busy s.ch1.ctrl = false ∧ passMapped s.params s.ch0.readAddr s.ch0.tcReload.toNat :=
  ⟨by decide, by decide,
    ⟨by decide, by decide, by decide, by decide, by decide, passMapped_of (by decide), by decide, by decide⟩,
    by decide, by decide, passMapped_of (by decide)⟩

/-- The running scanout with A at the first unmapped address. -/
def aAtUnmapped : State :=
  { streaming with
    ch0 := ⟨0x20040000#32, 0x50000210#32, 2#32, 2#32, 0x01001111#32, .read, 0#32⟩, sched := [.chan .ch0] }

/-- The scanout between two passes with B at a given pointer cell. -/
def bAtCell (cell : Addr) : State :=
  { rearming with
    ch1 := ⟨cell, 0x50000000#32, 1#32, 1#32, 0x01000009#32, .read, 0#32⟩, sched := [.chan .ch1] }

/-- `ChainDies`: A at the first unmapped address, B at a misaligned pointer cell, and at an unmapped one. -/
theorem witness_ChainDies :
    (Ctrl.putBusy false aAtUnmapped.ch0.ctrl = ctrlA ∧ Ctrl.putBusy false aAtUnmapped.ch1.ctrl = ctrlB ∧
      nextAgent aAtUnmapped = .chan .ch0 ∧ Ctrl.busy aAtUnmapped.ch0.ctrl = true ∧
      Ctrl.busy aAtUnmapped.ch1.ctrl = false ∧ aAtUnmapped.ch0.phase = .read ∧
      aAtUnmapped.pixQ.length < aAtUnmapped.params.pixDepth ∧
      busRead aAtUnmapped.ch0.readAddr .byte aAtUnmapped = none) ∧
    (∀ cell : Addr, Ctrl.putBusy false (bAtCell cell).ch0.ctrl = ctrlA ∧
      Ctrl.putBusy false (bAtCell cell).ch1.ctrl = ctrlB ∧ nextAgent (bAtCell cell) = .chan .ch1 ∧
      Ctrl.busy (bAtCell cell).ch0.ctrl = false ∧ Ctrl.busy (bAtCell cell).ch1.ctrl = true ∧
      (bAtCell cell).ch1.phase = .read) ∧
    (bAtCell 0x2003FFFE#32).ch1.readAddr.toNat % 4 ≠ 0 ∧
    busRead (bAtCell 0x1FFFFFFC#32).ch1.readAddr .word (bAtCell 0x1FFFFFFC#32) = none :=
  ⟨by decide, fun _ => ⟨show Ctrl.putBusy false 0x00001111#32 = ctrlA by decide,
    show Ctrl.putBusy false 0x01000009#32 = ctrlB by decide, rfl, show Ctrl.busy 0x00001111#32 = false by decide,
    show Ctrl.busy 0x01000009#32 = true by decide, rfl⟩,
    by decide, by decide⟩

/-- The scanout about to re-arm, the pointer cell's two low bytes and A's CTRL given. -/
def badCell (b0 b1 : Byte) (ctrl : Word) : State :=
  { rearming with
    ch0 := ⟨0x20000102#32, 0x50000210#32, 2#32, 0#32, ctrl, .read, 5#32⟩
    mem := [(0x20000000, b0), (0x20000001, b1), (0x20000002, 0x00#8), (0x20000003, 0x10#8)]
    sched := [.chan .ch1, .chan .ch1, .chan .ch0] }

/-- What the re-arm clause of `ChainDies` asks of A, which moves elements of size `sz`. -/
def rearmable (sz : Size) (s : State) : Bool :=
  !Ctrl.busy s.ch0.ctrl && !Ctrl.err s.ch0.ctrl && Ctrl.en s.ch0.ctrl && Ctrl.configLegal s.ch0.ctrl &&
  decide (Ctrl.dataSize s.ch0.ctrl = sz.code) && decide (s.ch0.tcReload ≠ 0#32) &&
  decide (s.pixQ.length < s.params.pixDepth)

/-- `ChainDies`, the re-arm: the unmapped cell value of vector V86 with descriptor A, and an odd one with A moving halfwords. -/
theorem witness_ChainDies_rearm :
    (rearmable .byte (badCell 0x00#8 0x00#8 0x00001111#32) = true ∧
      busRead (memRead 0x20000000#32 .word (badCell 0x00#8 0x00#8 0x00001111#32)) .byte
        (badCell 0x00#8 0x00#8 0x00001111#32) = none) ∧
    (rearmable .half (badCell 0x01#8 0x00#8 0x00001115#32) = true ∧
      (memRead 0x20000000#32 .word (badCell 0x01#8 0x00#8 0x00001115#32)).toNat % Size.half.bytes ≠ 0) ∧
    exampleParams.legal = true ∧ Ctrl.putBusy false 0x01000009#32 = ctrlB ∧
    ch0ReadAddrAddr exampleParams = 0x50000000#32 ∧ aligned 0x20000000#32 .word = true ∧
    passMapped exampleParams 0x20000000#32 4 :=
  ⟨by decide, by decide, by decide, by decide, by decide, by decide, passMapped_of (by decide)⟩

/-- `FillOfNothingOrFailing`: the state about to fill `count` bytes of 5 at `dest` from `src`. -/
def filling (dest src : Addr) (count : Word) (turns : List Agent) : State :=
  { State.reset with hostQ := fillProc dest 5#8 count src, sched := turns }

/-- `FillOfNothingOrFailing`: a fill of nothing, a fill from the byte below memory, and a fill whose third destination byte
is the first past memory. -/
theorem witness_FillOfNothingOrFailing :
    (∀ dest src count turns, Ctrl.busy (filling dest src count turns).ch2.ctrl = false ∧
      Ctrl.err (filling dest src count turns).ch2.ctrl = false ∧
      (filling dest src count turns).hostQ = fillProc dest 5#8 count src ++ []) ∧
    isMemory exampleParams 0x20000004#32 = true ∧
    (7#32 ≠ 0#32 ∧ inWindow exampleParams 0x1FFFFFFF#32 = false ∧ memMapped exampleParams 0x1FFFFFFF#32 = false) ∧
    (2 < (7#32 : Word).toNat ∧ passMapped exampleParams 0x2003FFFE#32 2 ∧
      inWindow exampleParams (addrAt 0x2003FFFE#32 2) = false ∧
      memMapped exampleParams (addrAt 0x2003FFFE#32 2) = false) :=
  ⟨fun _ _ _ _ => ⟨show Ctrl.busy 0x00000200#32 = false by decide, show Ctrl.err 0x00000200#32 = false by decide,
      (List.append_nil _).symm⟩,
    by decide, by decide, by decide, passMapped_of (by decide), by decide, by decide⟩

end Sys2Proof.Tests
end

section
/-! # The block's invariant, reset and the pixel queue (10_state.md)

`BlockInv` is kept by every step: one rule for each operation on the state (a channel, a generator, a word with
reserved bits, memory, the sequencer's phase), then one for each register write, then one for each agent's turn. -/

namespace Sys2Proof.Machine

variable {s t : State}

/-! ### Words with reserved bits -/

theorem reserved_or {a b m : Word} (ha : a &&& ~~~m = 0#32) (hb : b &&& ~~~m = 0#32) :
    (a ||| b) &&& ~~~m = 0#32 := by
  rw [BitVec.and_comm, BitVec.and_or_distrib_left, BitVec.and_comm _ a, BitVec.and_comm _ b, ha, hb]
  rfl

theorem reserved_and_left {a m : Word} (b : Word) (ha : a &&& ~~~m = 0#32) : (a &&& b) &&& ~~~m = 0#32 := by
  rw [BitVec.and_assoc, BitVec.and_comm b, ← BitVec.and_assoc, ha, BitVec.zero_and]

theorem reserved_and_right {b m : Word} (a : Word) (hb : b &&& ~~~m = 0#32) : (a &&& b) &&& ~~~m = 0#32 := by
  rw [BitVec.and_comm a, reserved_and_left a hb]

/-- Putting a bit that is not reserved keeps the reserved bits 0. -/
theorem reserved_putBit {i : Nat} {w m : Word} (b : Bool) (hi : (1#32 <<< i) &&& ~~~m = 0#32)
    (hw : w &&& ~~~m = 0#32) : putBit i b w &&& ~~~m = 0#32 := by
  cases b
  · exact reserved_and_left _ hw
  · exact reserved_or hw hi

/-- A write of CTRL keeps its reserved bits 0 (10_state.md R45; 40_channel_registers.md R156). -/
theorem reserved_written {c : Word} (v : Word) (hc : c &&& ~~~ctrlBits = 0#32) :
    Ctrl.written c v &&& ~~~ctrlBits = 0#32 := by
  cases hb : Ctrl.busy c
  · rw [written_of_idle v hb]
    exact reserved_or (reserved_and_left _ hc) (reserved_and_right v (by decide))
  · rw [written_of_busy v hb]
    exact reserved_putBit _ (by decide) hc

/-! ### The invariant of one channel -/

/-- What `BlockInv` asks of one channel (10_state.md R36; 41_transfer_engine.md R176, R187). -/
structure ChannelInv (c : Channel) : Prop where
  reserved : c.ctrl &&& ~~~ctrlBits = 0#32
  legal : Ctrl.busy c.ctrl = true →
    c.tcRemain ≠ 0#32 ∧ Ctrl.configLegal c.ctrl = true ∧ Ctrl.err c.ctrl = false

theorem BlockInv.channel (h : BlockInv s) (n : Chan) : ChannelInv (s.ch n) := ⟨h.ctrlReserved n, h.busyLegal n⟩

/-- An idle channel need only have its reserved bits 0. -/
theorem ChannelInv.of_idle {c : Channel} (hr : c.ctrl &&& ~~~ctrlBits = 0#32) (hb : Ctrl.busy c.ctrl = false) :
    ChannelInv c := ⟨hr, fun h => absurd h (by simp [hb])⟩

/-- A write of CTRL keeps the channel's invariant: of a busy channel it changes EN only (R156). -/
theorem ChannelInv.written {c : Channel} (h : ChannelInv c) (v : Word) :
    ChannelInv { c with ctrl := Ctrl.written c.ctrl v } where
  reserved := reserved_written v h.reserved
  legal hb := by
    rw [busy_written] at hb
    obtain ⟨hcount, hconf, herr⟩ := h.legal hb
    exact ⟨hcount, (configLegal_written_of_busy v hb).trans hconf, (err_written _ v).trans herr⟩

/-- A channel whose BUSY falls has its invariant, whatever its other registers hold. -/
theorem ChannelInv.stopped {c : Channel} (hr : c.ctrl &&& ~~~ctrlBits = 0#32) :
    ChannelInv { c with ctrl := Ctrl.putBusy false c.ctrl } :=
  .of_idle (reserved_putBit false (by decide) hr) (busy_putBusy false _)

/-! ### One rule for each operation on the state -/

/-- The state with every field that `BlockInv` does not speak of cleared: error flags, configuration registers of the
sequencer, observation fields, and the model's own fields. -/
def State.bare (s : State) : State :=
  { s with
    pixTxOver := false, paramOver := false, noprogErr := false, doubleStart := false
    seqFbBase := 0#32, seqFbLen := 0#32, seqPtrAddr := 0#32, seqParamH := 0#32, seqParamV := 0#32, seqParamP := 0#32
    seqPins := 0#32, pixOut := [], faults := [], stepNo := 0, sched := [], hostQ := [], resp := .noAccess }

theorem BlockInv.bare (h : BlockInv s) : BlockInv s.bare := { h with }

theorem BlockInv.of_bare (h : BlockInv s) (e : t.bare = s.bare) : BlockInv t := by
  have ht : BlockInv t.bare := e ▸ h.bare
  exact { ht with }

theorem BlockInv.setHostQ (q : List HostOp) (h : BlockInv s) : BlockInv { s with hostQ := q } := { h with }

theorem BlockInv.acked (h : BlockInv s) : BlockInv (acked s) := h.of_bare rfl

/-- A host-access fault changes no state of the block (60_exceptions.md R313). -/
theorem BlockInv.hostFault (k : HostFaultKind) (hdr : Option (BitVec 16)) (h : BlockInv s) :
    BlockInv (hostFault k hdr s) := h.of_bare rfl

theorem BlockInv.setCh {n : Chan} {c : Channel} (h : BlockInv s) (hc : ChannelInv c) : BlockInv (s.setCh n c) where
  __ := h
  ctrlReserved m := by
    rw [State.setCh_ch]
    split
    · exact hc.reserved
    · exact h.ctrlReserved m
  busyLegal m := by
    rw [State.setCh_ch]
    split
    · exact hc.legal
    · exact h.busyLegal m

/-- A generator replaced by one with its queue within capacity, latched only if loaded, and the same program: only in
FAILED may any set of programs be loaded. -/
theorem BlockInv.setGen {g : Gen} {x : Generator} (h : BlockInv s)
    (hl : s.seqState ≠ .failed → x.loaded = (s.gen g).loaded) (hq : x.paramQ.length ≤ s.params.paramDepth)
    (hx : x.latched = true → x.loaded = true) : BlockInv (s.setGen g x) := by
  have sameProgram : s.seqState ≠ .failed → ∀ k, ((s.setGen g x).gen k).loaded = (s.gen k).loaded := by
    intro hs k
    rw [State.setGen_gen]
    split
    · next e => rw [e, hl hs]
    · rfl
  exact
    { h with
      paramBound := fun k => by
        rw [State.setGen_gen]
        split
        · exact hq
        · exact h.paramBound k
      latchedLoaded := fun k => by
        rw [State.setGen_gen]
        split
        · exact hx
        · exact h.latchedLoaded k
      unloadedBefore := fun (hs : s.seqState = .idle ∨ s.seqState = .load) k =>
        (sameProgram (by rcases hs with e | e <;> simp [e]) k).trans (h.unloadedBefore hs k)
      loadedAfter := fun h1 h2 h3 k => (sameProgram h3 k).trans (h.loadedAfter h1 h2 h3 k) }

theorem BlockInv.setResClaim {w : Word} (h : BlockInv s) (hw : w &&& ~~~resClaimMask = 0#32) :
    BlockInv { s with resClaim := w } := { h with resClaimReserved := hw }

theorem BlockInv.setGenEnable {w : Word} (h : BlockInv s) (hw : w &&& ~~~genEnableMask = 0#32) :
    BlockInv { s with genEnable := w } := { h with genEnableReserved := hw }

theorem BlockInv.setImemUsed {w : Word} (h : BlockInv s) (hw : w.toNat ≤ imemSize) :
    BlockInv { s with imemUsed := w } := { h with imemBound := hw }

theorem BlockInv.setPixQ {q : List Byte} (out : List Byte) (h : BlockInv s) (hq : q.length ≤ s.params.pixDepth) :
    BlockInv { s with pixQ := q, pixOut := out } := { h with pixBound := hq }

/-! ### Memory -/

/-- A cell after a store is an old one or lies at one of the store's addresses. -/
theorem Memory.mem_writeBytes {m : Memory} {a : Addr} {bs : List Byte} {c : Host.Cell}
    (h : c ∈ m.writeBytes a bs) : c ∈ m ∨ ∃ i, i < bs.length ∧ c.1 = (addrAt a i).toNat := by
  induction bs generalizing m a with
  | nil => exact .inl h
  | cons b bs ih =>
    rcases ih h with hc | ⟨i, hi, hc⟩
    · rcases Memory.mem_write hc with hc | rfl
      · exact .inl hc
      · exact .inr ⟨0, by simp, by rw [addrAt_zero]⟩
    · exact .inr ⟨i + 1, by simpa using hi, by rw [hc, addrAt_addrAt, Nat.add_comm]⟩

theorem memMapped_of_allMapped {p : Params} {a : Addr} {sz : Size} {i : Nat} (h : allMapped p a sz = true)
    (hi : i < sz.bytes) : memMapped p (addrAt a i) = true := by
  simp only [allMapped, List.all_eq_true, List.mem_range] at h
  exact h i hi

/-- A store to mapped bytes (20_memory.md R92, R94). -/
theorem BlockInv.memWrite {a : Addr} {sz : Size} (v : Word) (h : BlockInv s)
    (hm : allMapped s.params a sz = true) : BlockInv (memWrite a sz v s) :=
  { h with
    memWf := memWrite_wf a sz v h.memWf
    memMappedOnly := fun c hc => by
      rcases Memory.mem_writeBytes hc with hc | ⟨i, hi, hc⟩
      · exact h.memMappedOnly c hc
      · rw [hc, BitVec.ofNat_toNat, BitVec.setWidth_eq]
        exact memMapped_of_allMapped hm (by rwa [bytesOf_length] at hi) }

/-! ### The sequencer's phases -/

/-- The phases in which every program is loaded (45_startup_sequencer.md R289, R291). -/
def SeqState.afterLoad : SeqState → Bool
  | .idle | .load | .failed => false
  | _ => true

theorem SeqState.afterLoad_iff (q : SeqState) : q.afterLoad = true ↔ q ≠ .idle ∧ q ≠ .load ∧ q ≠ .failed := by
  cases q <;> decide

theorem BlockInv.loaded (h : BlockInv s) (hs : s.seqState.afterLoad = true) (g : Gen) : (s.gen g).loaded = true := by
  obtain ⟨h1, h2, h3⟩ := (SeqState.afterLoad_iff _).mp hs
  exact h.loadedAfter h1 h2 h3 g

/-- Outside FAILED the failure code is 0 (45_startup_sequencer.md R291 to R293). -/
theorem BlockInv.noFailure (h : BlockInv s) (hs : s.seqState ≠ .failed) : s.failCode = .noFailure :=
  not_not.mp fun hf => hs (h.failCodeIffFailed.mp hf)

/-- A phase after the load phase may be entered once every program is loaded and nothing has failed. -/
theorem BlockInv.enterPhase {q : SeqState} (h : BlockInv s) (hf : s.failCode = .noFailure)
    (hl : ∀ g, (s.gen g).loaded = true) (hq : q.afterLoad = true) : BlockInv { s with seqState := q } := by
  obtain ⟨hidle, hload, hfailed⟩ := (SeqState.afterLoad_iff q).mp hq
  exact
    { h with
      failCodeIffFailed := ⟨fun e => absurd hf e, fun e => absurd e hfailed⟩
      unloadedBefore := fun e => absurd e (by simp [hidle, hload])
      loadedAfter := fun _ _ _ => hl }

/-- One phase after the load phase follows another. -/
theorem BlockInv.nextPhase {p q : SeqState} (h : BlockInv s) (hs : s.seqState = p) (hp : p.afterLoad = true)
    (hq : q.afterLoad = true) : BlockInv { s with seqState := q } := by
  subst hs
  obtain ⟨_, _, hfailed⟩ := (SeqState.afterLoad_iff _).mp hp
  exact h.enterPhase (h.noFailure hfailed) (h.loaded hp) hq

/-- A failure may come at any time and leaves any set of programs loaded. -/
theorem BlockInv.seqFail {f : FailCode} (h : BlockInv s) (hf : f ≠ .noFailure) : BlockInv (seqFail f s) :=
  { h with
    failCodeIffFailed := ⟨fun _ => rfl, fun _ => hf⟩
    unloadedBefore := fun e => absurd e (by simp [Machine.seqFail])
    loadedAfter := fun _ _ e => absurd rfl e }

/-! ### Triggers -/

/-- A trigger keeps the invariant: it starts a channel only with a legal configuration, no error and a count
(41_transfer_engine.md R171, R187). -/
theorem BlockInv.trigger (n : Chan) (h : BlockInv s) : BlockInv (trigger n s) := by
  have hr := h.ctrlReserved n
  rcases trigger_cases s n with e | ⟨hb, herr, _, ⟨_, e⟩ | ⟨_, _, e⟩ | ⟨hconf, hcount, e⟩⟩
  · rwa [e]
  · have marked : BlockInv (s.modCtrl n Ctrl.setCfgErr) :=
      h.setCh (.of_idle (reserved_putBit true (by decide) hr) ((busy_setCfgErr _).trans hb))
    rw [e]
    exact marked.of_bare rfl
  · rw [e]
    exact h.setCh (.of_idle hr hb)
  · rw [e]
    exact h.setCh ⟨reserved_putBit true (by decide) hr, fun _ => ⟨hcount, by simpa using hconf, by simpa using herr⟩⟩

theorem BlockInv.triggerIf (b : Bool) (n : Chan) (h : BlockInv s) : BlockInv (triggerIf b n s) := by
  cases b
  · exact h
  · exact h.trigger n

/-! ### Register writes -/

theorem BlockInv.noprogCheck (old new : Word) (g : Gen) (h : BlockInv s) : BlockInv (noprogCheck old new g s) := by
  unfold Machine.noprogCheck
  split
  · exact h.of_bare rfl
  · exact h

theorem BlockInv.markEnabled (old new : Word) (g : Gen) (h : BlockInv s) : BlockInv (markEnabled old new g s) := by
  unfold Machine.markEnabled
  split
  · exact h.setGen (fun _ => rfl) (h.paramBound g) (h.latchedLoaded g)
  · exact h

/-- A write of GEN_ENABLE: the NOPROG checks set flags only, the enables rise, EN_STEP is recorded (R241). -/
theorem BlockInv.wrGenEnable (v : Word) (h : BlockInv s) : BlockInv (wrGenEnable v s) := by
  unfold Machine.wrGenEnable
  have checked := ((h.noprogCheck s.genEnable (v &&& genEnableMask) .h).noprogCheck s.genEnable (v &&& genEnableMask)
    .v).noprogCheck s.genEnable (v &&& genEnableMask) .p
  have enabled := checked.setGenEnable (w := v &&& genEnableMask) (reserved_and_right v (by decide))
  exact ((enabled.markEnabled _ _ .h).markEnabled _ _ .v).markEnabled _ _ .p

/-- A push to a parameter queue: a full queue stays as it is (R244). -/
theorem BlockInv.wrGenParam (g : Gen) (v : Word) (h : BlockInv s) : BlockInv (wrGenParam g v s) := by
  unfold Machine.wrGenParam
  split
  · next hroom => exact h.setGen (fun _ => rfl) (by simpa using hroom) (h.latchedLoaded g)
  · exact h.of_bare rfl

/-- A push to the pixel queue: a full queue stays as it is (R246). -/
theorem BlockInv.wrPixTxf (v : Word) (h : BlockInv s) : BlockInv (wrPixTxf v s) := by
  unfold Machine.wrPixTxf
  split
  · next hroom => exact h.setPixQ s.pixOut (by simpa using hroom)
  · exact h.of_bare rfl

/-- IMEM_USED is capped at 32 (R248). -/
theorem BlockInv.wrImemUsed (v : Word) (h : BlockInv s) : BlockInv (wrImemUsed v s) := by
  unfold Machine.wrImemUsed
  split
  · refine h.setImemUsed ?_
    split
    · next hv => exact hv
    · decide
  · exact h

theorem BlockInv.wrSeqCfg (r : SeqCfg) (v : Word) (h : BlockInv s) : BlockInv (wrSeqCfg r v s) := by
  unfold Machine.wrSeqCfg
  split
  · cases r <;> exact h.of_bare rfl
  · exact h

/-- START moves the sequencer from IDLE to the load phase, with no program loaded yet, and elsewhere sets a flag (R284). -/
theorem BlockInv.wrSeqCtrl (v : Word) (h : BlockInv s) : BlockInv (wrSeqCtrl v s) := by
  unfold Machine.wrSeqCtrl
  split
  · split
    · next hidle =>
      exact
        { h with
          failCodeIffFailed := by simp [h.noFailure (by simp [hidle])]
          unloadedBefore := fun _ => h.unloadedBefore (.inl hidle)
          loadedAfter := fun _ e => absurd rfl e }
    · exact h.of_bare rfl
  · exact h

/-- Every register write keeps the invariant. -/
theorem BlockInv.regWrite (r : Reg) (v : Word) (h : BlockInv s) : BlockInv (regWrite r v s) := by
  cases r with
  | chReadAddr n => exact h.setCh { h.channel n with }
  | chWriteAddr n => exact h.setCh { h.channel n with }
  | chTransCount n => exact h.setCh { h.channel n with }
  | chCtrl n => exact h.setCh ((h.channel n).written v)
  | multiTrig => exact ((h.triggerIf _ .ch0).triggerIf _ .ch1).triggerIf _ .ch2
  | status => exact h
  | resClaim => exact h.setResClaim (reserved_and_right v (by decide))
  | genEnable => exact h.wrGenEnable v
  | genParam g => exact h.wrGenParam g v
  | pixTxf => exact h.wrPixTxf v
  | genStatus => exact h
  | imemUsed => exact h.wrImemUsed v
  | seqCfg c => exact h.wrSeqCfg c v
  | seqCtrl => exact h.wrSeqCtrl v
  | seqStatus => exact h

theorem BlockInv.busWrite {a : Addr} {sz : Size} {v : Word} (h : BlockInv s) (hw : busWrite a sz v s = some t) :
    BlockInv t := by
  rcases busWrite_cases s hw with ⟨r, _, _, rfl⟩ | ⟨_, hm, rfl⟩
  · exact h.regWrite r v
  · exact h.memWrite v hm

/-! ### The agents' turns -/

/-- The host's turn: a register write, a read, a host-access fault or a store to mapped memory. -/
theorem BlockInv.hostStep (h : BlockInv s) (hs : hostStep s = .next t) : BlockInv t := by
  unfold Machine.hostStep at hs
  split at hs
  · cases hs
    exact h
  · next op rest _ =>
    have hrest : BlockInv { s with hostQ := rest } := h.setHostQ rest
    obtain ⟨q, _, ⟨r, v, rfl⟩ | ⟨x, rfl⟩ | ⟨k, hdr, rfl⟩ | ⟨a, sz, v, _, hm, rfl⟩⟩ := hostOp_next hs
    · exact (hrest.regWrite r v).acked.setHostQ q
    · exact hrest.of_bare rfl
    · exact (hrest.hostFault k hdr).setHostQ q
    · exact (hrest.memWrite v hm).acked.setHostQ q

/-- A failed element leaves its channel idle with an error bit set (41_transfer_engine.md R187). -/
theorem BlockInv.haltCh {i : Nat} (n : Chan) (h : BlockInv s) (hi : (1#32 <<< i) &&& ~~~ctrlBits = 0#32) :
    BlockInv (s.modCtrl n fun c => Ctrl.putBusy false (putBit i true c)) :=
  h.setCh (.stopped (c := { s.ch n with ctrl := putBit i true (s.ch n).ctrl })
    (reserved_putBit true hi (h.ctrlReserved n)))

theorem BlockInv.chReadPhase (n : Chan) (sz : Size) (h : BlockInv s) : BlockInv (chReadPhase n sz s) := by
  rcases chReadPhase_cases n sz s with e | ⟨x, _, _, e⟩ <;> rw [e]
  · exact (h.haltCh n (i := 30) (by decide)).of_bare rfl
  · exact h.setCh { h.channel n with }

theorem State.setCh_modCtrl (s : State) (n : Chan) (c : Channel) (f : Word → Word) :
    (s.setCh n c).modCtrl n f = s.setCh n { c with ctrl := f c.ctrl } := by
  simp [State.modCtrl]

/-- After an element's write the channel has elements left, or completes: the state between the count's fall to 0 and the
fall of BUSY lacks the invariant, so the two are one update (41_transfer_engine.md R180, R182). -/
theorem BlockInv.finishElement (n : Chan) (sz : Size) (h : BlockInv s) : BlockInv (finishElement n sz s) := by
  have hc := h.channel n
  unfold Machine.finishElement
  dsimp only
  split
  · have stopped : BlockInv ((s.setCh n (advanced sz (s.ch n))).modCtrl n (Ctrl.putBusy false)) := by
      rw [State.setCh_modCtrl]
      exact h.setCh (.stopped hc.reserved)
    rcases complete_cases n (s.setCh n (advanced sz (s.ch n))) with e | ⟨m, _, _, e⟩ <;> rw [e]
    · exact stopped
    · exact stopped.trigger m
  · next hleft => exact h.setCh ⟨hc.reserved, fun hb => ⟨hleft, (hc.legal hb).2⟩⟩

theorem BlockInv.chWritePhase (n : Chan) (sz : Size) (h : BlockInv s) : BlockInv (chWritePhase n sz s) := by
  rcases chWritePhase_cases n sz s with e | ⟨w, _, hw, e⟩ <;> rw [e]
  · exact (h.haltCh n (i := 31) (by decide)).of_bare rfl
  · exact (h.busWrite hw).finishElement n sz

theorem BlockInv.chStep {n : Chan} (h : BlockInv s) (hs : chStep n s = .next t) : BlockInv t := by
  rcases chStep_next hs with ⟨_, rfl⟩ | ⟨sz, _, _, _, _, ⟨_, rfl⟩ | ⟨_, rfl⟩⟩
  · exact h
  · exact h.chReadPhase n sz
  · exact h.chWritePhase n sz

/-- A generator latches only when its program is loaded (44_timing_generators.md R250). -/
theorem BlockInv.genStep (g : Gen) (h : BlockInv s) : BlockInv (genStep g s) := by
  rcases genStep_cases g s with ⟨hl, e⟩ | ⟨_, _, e⟩ | e <;> rw [e]
  · simp only [latchEnabled, Bool.and_eq_true] at hl
    obtain ⟨⟨⟨_, hloaded⟩, _⟩, _⟩ := hl
    have hq : (s.gen g).paramQ.tail.length ≤ s.params.paramDepth :=
      (List.length_tail ▸ Nat.sub_le _ 1).trans (h.paramBound g)
    exact h.setGen (fun _ => rfl) hq fun _ => hloaded
  · exact h.setPixQ _ ((List.length_tail ▸ Nat.sub_le _ 1).trans h.pixBound)
  · exact h

/-! ### The sequencer's turn -/

theorem loadProgram_gen (g k : Gen) (s : State) :
    (loadProgram g s).gen k = if k = g then { s.gen g with loaded := true } else s.gen k := by
  cases g <;> cases k <;> rfl

/-- A program that fits is loaded. While the load phase runs the invariant is stated of the failure it may end in, which
leaves any set of programs loaded (45_startup_sequencer.md R291). -/
theorem BlockInv.loadProgram {g : Gen} (h : BlockInv (Machine.seqFail .imemExhausted s))
    (hfit : programFits g s = true) : BlockInv (Machine.seqFail .imemExhausted (loadProgram g s)) := by
  have hroom : s.imemUsed.toNat + s.params.progLen g ≤ imemSize := by simpa [programFits] using hfit
  have hused : (s.imemUsed + BitVec.ofNat 32 (s.params.progLen g)).toNat ≤ imemSize := by
    rw [BitVec.toNat_add, BitVec.toNat_ofNat]
    simp only [imemSize] at hroom ⊢
    omega
  exact (h.setGen (x := { s.gen g with loaded := true }) (fun e => absurd rfl e) (h.paramBound g)
    fun _ => rfl).setImemUsed hused

/-- The load phase, by the list of programs still to load. -/
theorem BlockInv.loadPrograms {gs : List Gen} (h : BlockInv (Machine.seqFail .imemExhausted s))
    (hf : s.failCode = .noFailure) (hl : ∀ g, g ∉ gs → (s.gen g).loaded = true) : BlockInv (loadPrograms gs s) := by
  induction gs generalizing s with
  | nil =>
    exact
      { h with
        failCodeIffFailed := by simp [Machine.loadPrograms, hf]
        unloadedBefore := fun e => absurd e (by simp [Machine.loadPrograms])
        loadedAfter := fun _ _ _ g => hl g (by simp) }
  | cons g gs ih =>
    unfold Machine.loadPrograms
    split
    · next hfit =>
      refine ih (h.loadProgram hfit) hf fun k hk => ?_
      rw [loadProgram_gen]
      split
      · rfl
      · next hne => exact hl k (by simp [hne, hk])
    · exact h

theorem BlockInv.seqAssign (h : BlockInv s) (hs : s.seqState = .assign) : BlockInv (seqAssign s) := by
  unfold Machine.seqAssign
  split
  · exact h.seqFail (by decide)
  · exact (h.setResClaim (reserved_or h.resClaimReserved (by decide))).nextPhase hs rfl rfl

theorem BlockInv.configureA (h : BlockInv s) : BlockInv (configureA s) :=
  (((h.regWrite (.chReadAddr .ch0) s.seqFbBase).regWrite (.chWriteAddr .ch0) (pixTxfAddr s.params)).regWrite
    (.chTransCount .ch0) s.seqFbLen).regWrite (.chCtrl .ch0) ctrlA

theorem BlockInv.configureB (h : BlockInv s) : BlockInv (configureB s) :=
  (((h.regWrite (.chReadAddr .ch1) s.seqPtrAddr).regWrite (.chWriteAddr .ch1) (ch0ReadAddrAddr s.params)).regWrite
    (.chTransCount .ch1) 1#32).regWrite (.chCtrl .ch1) ctrlB

theorem BlockInv.seqConfig (h : BlockInv s) (hs : s.seqState = .config) : BlockInv (seqConfig s) := by
  unfold Machine.seqConfig
  split
  · exact h.seqFail (by decide)
  · have claimed := h.setResClaim (w := s.resClaim ||| scanoutClaims) (reserved_or h.resClaimReserved (by decide))
    exact claimed.configureA.configureB.nextPhase hs rfl rfl

theorem BlockInv.seqParam (h : BlockInv s) (hs : s.seqState = .param) : BlockInv (seqParam s) :=
  (((h.wrGenParam .h _).wrGenParam .v _).wrGenParam .p _).nextPhase (by simpa using hs) rfl rfl

theorem BlockInv.seqEnable (h : BlockInv s) (hs : s.seqState = .enable) : BlockInv (seqEnable s) :=
  (h.wrGenEnable _).nextPhase (by simpa using hs) rfl rfl

theorem BlockInv.seqArm (h : BlockInv s) (hs : s.seqState = .arm) : BlockInv (seqArm s) :=
  (h.trigger .ch0).nextPhase (by simpa using hs) rfl rfl

theorem BlockInv.seqLoad (h : BlockInv s) (hs : s.seqState = .load) : BlockInv (seqLoad s) :=
  BlockInv.loadPrograms (h.seqFail (by decide)) (h.noFailure (by simp [hs])) fun g hg =>
    absurd (show g ∈ [Gen.h, .v, .p] by cases g <;> decide) hg

theorem BlockInv.seqStep (h : BlockInv s) : BlockInv (seqStep s) := by
  unfold Machine.seqStep
  cases hs : s.seqState with
  | idle => exact h
  | load => exact h.seqLoad hs
  | assign => exact h.seqAssign hs
  | config => exact h.seqConfig hs
  | param => exact h.seqParam hs
  | enable => exact h.seqEnable hs
  | arm => exact h.seqArm hs
  | running => exact h
  | failed => exact h

theorem BlockInv.agentStep {a : Agent} (h : BlockInv s) (hs : agentStep a s = .next t) : BlockInv t := by
  cases a with
  | host => exact h.hostStep hs
  | chan n => exact h.chStep hs
  | gen g =>
    cases hs
    exact h.genStep g
  | seq =>
    cases hs
    exact h.seqStep

/-- Settles O46: the agent with the turn keeps the invariant, and taking and counting the turn touch none of its fields. -/
theorem blockInvKept : Obligations.BlockInvKept := by
  intro s t h hs
  obtain ⟨u, hu, rfl⟩ := step_next hs
  have acting : BlockInv (takeTurn s) := h.of_bare rfl
  exact (acting.agentStep hu).of_bare rfl

/-! ### Power-on reset -/

theorem powerOn_ch (p : Params) (n : Chan) : (State.powerOn p).ch n = Channel.atReset n := by cases n <;> rfl

theorem powerOn_gen (p : Params) (g : Gen) : (State.powerOn p).gen g = Generator.atReset := by cases g <;> rfl

/-- A channel after power-on is idle with its CHAIN_TO naming itself and no reserved bit set (10_state.md R36). -/
theorem channelInv_atReset (n : Chan) : ChannelInv (Channel.atReset n) := by
  cases n <;> exact .of_idle (by decide) (by decide)

theorem blockInv_powerOn (p : Params) : BlockInv (State.powerOn p) where
  memWf := powerOn_mem_wf p
  memMappedOnly _ hc := absurd hc List.not_mem_nil
  ctrlReserved n := by
    rw [powerOn_ch]
    exact (channelInv_atReset n).reserved
  busyLegal n := by
    rw [powerOn_ch]
    exact (channelInv_atReset n).legal
  resClaimReserved := BitVec.zero_and
  genEnableReserved := BitVec.zero_and
  imemBound := Nat.zero_le _
  pixBound := Nat.zero_le _
  paramBound g := by
    rw [powerOn_gen]
    exact Nat.zero_le _
  latchedLoaded g := by
    rw [powerOn_gen]
    exact id
  failCodeIffFailed := by simp [State.powerOn]
  unloadedBefore _ g := by
    rw [powerOn_gen]
    rfl
  loadedAfter hidle := absurd rfl hidle

/-- Settles O47. -/
theorem blockInvAtReset : Obligations.BlockInvAtReset := ⟨blockInv_powerOn, blockInv_powerOn exampleParams⟩

/-- An empty pixel queue of some capacity is not full, so every bit of GEN_STATUS is 0 after reset (10_state.md R54). -/
theorem genStatusWord_powerOn {p : Params} (h : 1 ≤ p.pixDepth) : genStatusWord (State.powerOn p) = 0#32 := by
  have notFull : ¬ 0 = p.pixDepth := by omega
  simp [genStatusWord, State.powerOn, Generator.atReset, notFull]

/-- STATUS after reset does not depend on the parameters (10_state.md R48). -/
theorem statusWord_powerOn (p : Params) : statusWord (State.powerOn p) = 0#32 :=
  show statusWord (State.powerOn exampleParams) = 0#32 by decide

/-- SEQ_STATUS after reset does not depend on the parameters (10_state.md R61). -/
theorem seqStatusWord_powerOn (p : Params) : seqStatusWord (State.powerOn p) = 0#32 :=
  show seqStatusWord (State.powerOn exampleParams) = 0#32 by decide

/-- Settles O44. -/
theorem resetValues : Obligations.ResetValues := by
  intro p
  refine ⟨rfl, fun n => ?channel, rfl, rfl, rfl, statusWord_powerOn p, rfl, rfl, rfl, fun g => ?generator, rfl, rfl, rfl,
    genStatusWord_powerOn, rfl, rfl, rfl, rfl, rfl, rfl, rfl, rfl, seqStatusWord_powerOn p, fun _ => rfl, rfl, rfl⟩
  case channel =>
    rw [powerOn_ch]
    exact ⟨rfl, rfl, rfl, rfl, rfl, rfl⟩
  case generator =>
    rw [powerOn_gen]
    exact ⟨rfl, rfl, rfl, rfl, rfl⟩

/-! ### STATUS -/

/-- The fields of STATUS: BUSY in bits 2:0, the errors in bits 10:8 (10_state.md R48). -/
theorem statusWord_fields (s : State) :
    (statusWord s).getLsbD 0 = Ctrl.busy s.ch0.ctrl ∧ (statusWord s).getLsbD 1 = Ctrl.busy s.ch1.ctrl ∧
    (statusWord s).getLsbD 2 = Ctrl.busy s.ch2.ctrl ∧ (statusWord s).getLsbD 8 = Ctrl.err s.ch0.ctrl ∧
    (statusWord s).getLsbD 9 = Ctrl.err s.ch1.ctrl ∧ (statusWord s).getLsbD 10 = Ctrl.err s.ch2.ctrl := by
  simp only [statusWord, BitVec.getLsbD_append, BitVec.getLsbD_ofBool, BitVec.getLsbD_zero]
  simp

/-- The bits between and above the fields of STATUS are padding (10_state.md R48). -/
theorem statusWord_padding {j : Nat} (s : State) (hj : j ∉ [0, 1, 2, 8, 9, 10]) :
    (statusWord s).getLsbD j = false := by
  simp only [List.mem_cons, List.not_mem_nil, or_false, not_or] at hj
  simp only [statusWord, BitVec.getLsbD_append, BitVec.getLsbD_ofBool, BitVec.getLsbD_zero]
  grind

/-- Settles O15: a read of STATUS returns `statusWord`, whose bits are its fields and padding. -/
theorem readStatus : Obligations.ReadStatus := by
  refine ⟨fun p => congrArg (fun v => Host.Outcome.next (returned v _)) (statusWord_powerOn p), fun s => ?_⟩
  obtain ⟨busy0, busy1, busy2, err0, err1, err2⟩ := statusWord_fields s
  exact ⟨statusWord s, rfl, busy0, busy1, busy2, err0, err1, err2, fun _ => statusWord_padding s⟩

/-! ### The pixel queue -/

/-- What the display has received, followed by what is queued, only grows at its end, by at most one byte, and so does
what the display has received by itself (10_state.md R65; 42_scanout_chain.md R210). -/
def PixelsGrow (s t : State) : Prop :=
  (∃ new : List Byte, new.length ≤ 1 ∧ t.pixOut ++ t.pixQ = s.pixOut ++ s.pixQ ++ new) ∧
  ∃ taken : List Byte, t.pixOut = s.pixOut ++ taken

/-- A push at most: the display receives nothing. -/
theorem PixelsGrow.of_push {new : List Byte} (hn : new.length ≤ 1) (hq : t.pixQ = s.pixQ ++ new)
    (ho : t.pixOut = s.pixOut) : PixelsGrow s t :=
  ⟨⟨new, hn, by rw [ho, hq, List.append_assoc]⟩, [], by rw [ho, List.append_nil]⟩

theorem PixelsGrow.of_same (hq : t.pixQ = s.pixQ) (ho : t.pixOut = s.pixOut) : PixelsGrow s t :=
  .of_push (new := []) (by simp) (by rw [hq, List.append_nil]) ho

/-- The generator's pop moves the oldest queued byte to the end of the display's sequence (44_timing_generators.md R252). -/
theorem pixelsGrow_pixPop (s : State) : PixelsGrow s (pixPop s) := by
  refine ⟨⟨[], by simp, ?_⟩, s.pixQ.take 1, rfl⟩
  show s.pixOut ++ s.pixQ.take 1 ++ s.pixQ.tail = s.pixOut ++ s.pixQ ++ []
  rw [List.append_assoc, ← List.drop_one, List.take_append_drop, List.append_nil]

/-- Of the register writes only that of PIX_TXF touches the pixel queue, and pushes at most one byte (R246). -/
theorem regWrite_pixQ (r : Reg) (v : Word) (s : State) :
    ∃ new : List Byte, new.length ≤ 1 ∧ (regWrite r v s).pixQ = s.pixQ ++ new := by
  cases r with
  | pixTxf =>
    simp only [regWrite, wrPixTxf]
    split
    · exact ⟨[v.extractLsb' 0 8], by simp, rfl⟩
    · exact ⟨[], by simp, by simp⟩
  | _ => exact ⟨[], by simp, by simp [regWrite, wrStatus, wrResClaim, wrGenStatus, wrSeqStatus]⟩

theorem pixelsGrow_regWrite (r : Reg) (v : Word) (s : State) : PixelsGrow s (regWrite r v s) := by
  obtain ⟨new, hn, hq⟩ := regWrite_pixQ r v s
  exact .of_push hn hq (regWrite_pixOut s r v)

theorem pixelsGrow_busWrite {a : Addr} {sz : Size} {v : Word} (h : busWrite a sz v s = some t) : PixelsGrow s t := by
  rcases busWrite_cases s h with ⟨r, _, _, rfl⟩ | ⟨_, _, rfl⟩
  · exact pixelsGrow_regWrite r v s
  · exact .of_same rfl rfl

theorem pixelsGrow_hostStep (h : hostStep s = .next t) : PixelsGrow s t := by
  unfold hostStep at h
  split at h
  · cases h
    exact .of_same rfl rfl
  · next op rest _ =>
    obtain ⟨q, _, ⟨r, v, rfl⟩ | ⟨x, rfl⟩ | ⟨k, hdr, rfl⟩ | ⟨a, sz, v, _, _, rfl⟩⟩ := hostOp_next h
    · exact pixelsGrow_regWrite r v { s with hostQ := rest }
    · exact .of_same rfl rfl
    · exact .of_same rfl rfl
    · exact .of_same rfl rfl

/-- The advance, completion and the trigger it may chain to leave the pixel queue alone (41_transfer_engine.md R180, R182). -/
theorem finishElement_pixels (n : Chan) (sz : Size) (s : State) :
    (finishElement n sz s).pixQ = s.pixQ ∧ (finishElement n sz s).pixOut = s.pixOut := by
  unfold finishElement
  dsimp only
  split
  · rcases complete_cases n (s.setCh n (advanced sz (s.ch n))) with e | ⟨m, _, _, e⟩ <;> rw [e] <;> simp
  · exact ⟨rfl, rfl⟩

theorem pixelsGrow_chStep {n : Chan} (h : chStep n s = .next t) : PixelsGrow s t := by
  rcases chStep_next h with ⟨_, rfl⟩ | ⟨sz, _, _, _, _, ⟨_, rfl⟩ | ⟨_, rfl⟩⟩
  · exact .of_same rfl rfl
  · rcases chReadPhase_cases n sz s with e | ⟨x, _, _, e⟩ <;> rw [e] <;> exact .of_same rfl rfl
  · rcases chWritePhase_cases n sz s with e | ⟨w, _, hw, e⟩ <;> rw [e]
    · exact .of_same rfl rfl
    · obtain ⟨hq, ho⟩ := finishElement_pixels n sz w
      unfold PixelsGrow
      rw [hq, ho]
      exact pixelsGrow_busWrite hw

theorem pixelsGrow_genStep (g : Gen) (s : State) : PixelsGrow s (genStep g s) := by
  rcases genStep_cases g s with ⟨_, e⟩ | ⟨_, _, e⟩ | e <;> rw [e]
  · exact .of_same rfl rfl
  · exact pixelsGrow_pixPop s
  · exact .of_same rfl rfl

theorem loadPrograms_pixels (gs : List Gen) (s : State) :
    (loadPrograms gs s).pixQ = s.pixQ ∧ (loadPrograms gs s).pixOut = s.pixOut := by
  induction gs generalizing s with
  | nil => exact ⟨rfl, rfl⟩
  | cons g gs ih =>
    unfold loadPrograms
    split
    · exact ih (loadProgram g s)
    · exact ⟨rfl, rfl⟩

/-- No phase of the sequencer touches the pixel queue or the display's sequence (45_startup_sequencer.md R291 to R298). -/
theorem seqStep_pixels (s : State) : (seqStep s).pixQ = s.pixQ ∧ (seqStep s).pixOut = s.pixOut := by
  unfold seqStep
  cases s.seqState with
  | load => exact loadPrograms_pixels _ s
  | assign =>
    simp only [seqAssign]
    split <;> exact ⟨rfl, rfl⟩
  | config =>
    simp only [seqConfig]
    split <;> exact ⟨rfl, rfl⟩
  | param => simp [seqParam]
  | enable => simp [seqEnable]
  | arm => simp [seqArm]
  | _ => exact ⟨rfl, rfl⟩

/-- Settles O37: the host's or a channel's turn pushes at most one byte, the pixel generator's moves one, and no other turn
touches the queue. -/
theorem pixelsInOrder : Obligations.PixelsInOrder := by
  intro s t h
  obtain ⟨u, hu, rfl⟩ := step_next h
  suffices PixelsGrow (takeTurn s) u from this
  cases ha : nextAgent s with
  | host => exact pixelsGrow_hostStep (by simpa only [ha, agentStep] using hu)
  | chan n => exact pixelsGrow_chStep (by simpa only [ha, agentStep] using hu)
  | gen g =>
    rw [ha] at hu
    cases hu
    exact pixelsGrow_genStep g _
  | seq =>
    rw [ha] at hu
    cases hu
    exact .of_same (seqStep_pixels _).1 (seqStep_pixels _).2

end Sys2Proof.Machine
end

section
/-! # Memory and the decoded accesses (20_memory.md)

What a turn without a step does, the bytes of a load and a store, which register accesses the window decodes, the cases
of a host load or store, and the writes that may be repeated. -/

namespace Sys2Proof.Machine

variable {s : State}

/-! ### An idle turn -/

/-- Whether an agent has a step does not depend on whose turn it is. -/
@[simp] theorem agentEnabled_takeTurn (a : Agent) (s : State) : agentEnabled a (takeTurn s) = agentEnabled a s := by
  cases a <;> rfl

/-- A generator with nothing to latch or take lets its turn pass (44_timing_generators.md R250, R252). -/
theorem genStep_of_idle {g : Gen} (h : agentEnabled (.gen g) s = false) : genStep g s = s := by
  simp only [agentEnabled, Bool.or_eq_false_iff, Bool.and_eq_false_iff, decide_eq_false_iff_not] at h
  obtain ⟨hlatch, hpop⟩ := h
  rcases genStep_cases g s with ⟨hl, _⟩ | ⟨hg, hp, _⟩ | e
  · simp [hl] at hlatch
  · simp [hg, hp] at hpop
  · exact e

/-- The sequencer lets its turn pass in IDLE, RUNNING and FAILED (45_startup_sequencer.md R288). -/
theorem seqStep_of_idle (h : agentEnabled .seq s = false) : seqStep s = s := by
  simp only [agentEnabled, seqEnabled] at h
  unfold seqStep
  cases hq : s.seqState with
  | idle => rfl
  | running => rfl
  | failed => rfl
  | _ => simp [hq] at h

/-- An agent without an enabled step lets its turn pass (20_memory.md R105). -/
theorem agentStep_of_idle {a : Agent} (h : agentEnabled a s = false) : agentStep a s = .next s := by
  cases a with
  | host =>
    have silent : s.hostQ = [] := by simpa [agentEnabled] using h
    simp [agentStep, hostStep, silent]
  | chan n => exact if_pos h
  | gen g => exact congrArg _ (genStep_of_idle h)
  | seq => exact congrArg _ (seqStep_of_idle h)

/-- Settles O6: the agent with the turn lets it pass, and the turn is used up and counted. -/
theorem idleTurnChangesNothing : Obligations.IdleTurnChangesNothing := by
  intro s h
  have passes : agentStep (nextAgent s) (takeTurn s) = .next (takeTurn s) :=
    agentStep_of_idle ((agentEnabled_takeTurn _ s).trans h)
  rw [step, stepOnce, passes]
  rfl

/-! ### The bytes of a load and of a store -/

/-- Byte `i` of a stored value is its bits `8i+7:8i` (20_memory.md R92). -/
theorem bytesOf_eq_map (sz : Size) (v : Word) :
    bytesOf sz v = (List.range sz.bytes).map fun i => v.extractLsb' (8 * i) 8 := by
  cases sz <;> rfl

/-- The byte at each address of a store (20_memory.md R92). -/
theorem memWrite_read_byte (a : Addr) {sz : Size} (v : Word) (s : State) {i : Nat} (hi : i < sz.bytes) :
    (memWrite a sz v s).mem.read? (addrAt a i).toNat = some (v.extractLsb' (8 * i) 8) := by
  have hlen : i < (bytesOf sz v).length := by rwa [bytesOf_length]
  rw [memWrite_read a sz v s i hlen]
  simp [bytesOf_eq_map]

/-- A byte put below a value. -/
theorem toNat_append_byte {n : Nat} (x : BitVec n) (b : Byte) : (x ++ b).toNat = x.toNat * 2 ^ 8 + b.toNat := by
  rw [BitVec.toNat_append, ← Nat.shiftLeft_add_eq_or_of_lt b.isLt, Nat.shiftLeft_eq]

/-- The value of a load is the sum of its bytes, each at its place (20_memory.md R91, R92). -/
theorem wordOf_toNat (sz : Size) (b : Nat → Byte) :
    (wordOf sz b).toNat = ((List.range sz.bytes).map fun i => (b i).toNat * 2 ^ (8 * i)).sum := by
  cases sz <;>
    simp only [wordOf, Size.bytes, toNat_append_byte, BitVec.toNat_zero, List.sum_range_succ, List.range_zero, List.map_nil,
      List.sum_nil] <;>
    ring

/-- A byte that has been written reads as it was written (20_memory.md R93). -/
theorem readByte_of_read {x : Addr} {b : Byte} (h : s.mem.read? x.toNat = some b) : readByte s x = b := by
  simp [readByte, h]

/-- Settles O7: by the two rules of a store, for the bytes it writes and for all others, and by the value of a load. -/
theorem memoryBytesAndFrame : Obligations.MemoryBytesAndFrame := fun s a sz v =>
  ⟨fun _ hi => memWrite_read_byte a v s hi, fun x hx => memWrite_read_of_ne a sz v s x hx, rfl,
    wordOf_toNat sz fun i => readByte s (addrAt a i), fun _ _ hb => readByte_of_read hb⟩

/-! ### Decoded accesses -/

/-- The model's register map has the offsets written out from 30_encoding.md R127. -/
theorem offsets_all : Reg.all.map Reg.offset = definedOffsets := by decide

/-- An offset names a register exactly when it is that register's. -/
theorem ofOffset_eq_some_iff {off : BitVec 12} {r : Reg} : Reg.ofOffset? off = some r ↔ r.offset = off :=
  ⟨Reg.offset_of_ofOffset, fun h => h ▸ Reg.ofOffset_offset r⟩

/-- An offset is defined exactly when it is some register's (30_encoding.md R127, R129). -/
theorem mem_definedOffsets {off : BitVec 12} : off ∈ definedOffsets ↔ ∃ r : Reg, r.offset = off := by
  constructor
  · intro h
    rw [← offsets_all] at h
    obtain ⟨r, _, hr⟩ := List.mem_map.1 h
    exact ⟨r, hr⟩
  · rintro ⟨r, rfl⟩
    rw [← offsets_all]
    exact List.mem_map_of_mem (List.mem_of_find?_eq_some (Reg.ofOffset_offset r))

/-- The register at offset 0x210 is PIX_TXF, and no other register is there. -/
theorem offset_eq_pixTxf_iff {r : Reg} : r.offset = 0x210#12 ↔ r = .pixTxf := by
  constructor
  · intro h
    exact Option.some.inj ((ofOffset_eq_some_iff.2 h).symm.trans (Reg.ofOffset_offset .pixTxf))
  · rintro rfl
    rfl

/-- Which access reaches a register (20_memory.md R95). -/
theorem legalReg_eq_some_iff {off : BitVec 12} {sz : Size} {write : Bool} {r : Reg} :
    legalReg? off sz write = some r ↔ r.offset = off ∧ (sz = .word ∨ (write = true ∧ off = 0x210#12)) := by
  rw [← ofOffset_eq_some_iff, legalReg?]
  cases hr : Reg.ofOffset? off with
  | none => simp
  | some q =>
    have hq : off = 0x210#12 ↔ q = .pixTxf := by rw [← offset_eq_pixTxf_iff, Reg.offset_of_ofOffset hr]
    simp only [hq, Option.ite_none_right_eq_some, and_comm]

/-- The legal register accesses, by offset, size and direction (20_memory.md R95). -/
theorem legalReg_isSome_iff {off : BitVec 12} {sz : Size} {write : Bool} :
    (legalReg? off sz write).isSome ↔ off ∈ definedOffsets ∧ (sz = .word ∨ (write = true ∧ off = 0x210#12)) := by
  simp only [Option.isSome_iff_exists, legalReg_eq_some_iff, mem_definedOffsets, exists_and_right]

theorem inWindow_iff {p : Params} {a : Addr} : inWindow p a = true ↔ (a - p.sdbBase).toNat < 0x1000 := by
  simp [inWindow]

theorem allMapped_iff {p : Params} {a : Addr} {sz : Size} :
    allMapped p a sz = true ↔ ∀ i, i < sz.bytes → memMapped p (addrAt a i) = true := by
  simp [allMapped]

theorem busRead_window {a : Addr} (sz : Size) (h : inWindow s.params a = true) :
    busRead a sz s = (legalReg? (windowOffset s.params a) sz false).map fun r => regRead r s := if_pos h

theorem busWrite_window {a : Addr} (sz : Size) (v : Word) (h : inWindow s.params a = true) :
    busWrite a sz v s = (legalReg? (windowOffset s.params a) sz true).map fun r => regWrite r v s := if_pos h

theorem busRead_memory {a : Addr} (sz : Size) (h : inWindow s.params a = false) :
    busRead a sz s = if allMapped s.params a sz then some (memRead a sz s) else none := by
  simp [busRead, h]

theorem busWrite_memory {a : Addr} (sz : Size) (v : Word) (h : inWindow s.params a = false) :
    busWrite a sz v s = if allMapped s.params a sz then some (memWrite a sz v s) else none := by
  simp [busWrite, h]

/-- A legal register access is that of the register at its offset. -/
theorem legalReg_map {α : Type} {off : BitVec 12} {sz : Size} {write : Bool} (f : Reg → α) (hoff : off ∈ definedOffsets)
    (hsz : sz = .word ∨ (write = true ∧ off = 0x210#12)) :
    ∃ r : Reg, r.offset = off ∧ (legalReg? off sz write).map f = some (f r) := by
  obtain ⟨r, hr⟩ := Option.isSome_iff_exists.1 (legalReg_isSome_iff.2 ⟨hoff, hsz⟩)
  exact ⟨r, (legalReg_eq_some_iff.1 hr).1, by rw [hr]; rfl⟩

/-- Any other register access reaches nothing. -/
theorem legalReg_map_none {α : Type} {off : BitVec 12} {sz : Size} {write : Bool} (f : Reg → α)
    (h : ¬ (off ∈ definedOffsets ∧ (sz = .word ∨ (write = true ∧ off = 0x210#12)))) :
    (legalReg? off sz write).map f = none := by
  rw [Option.map_eq_none_iff, ← Option.not_isSome_iff_eq_none, legalReg_isSome_iff]
  exact h

/-- Settles O8: in the window by which register accesses are legal, outside it by whether the bytes are mapped. -/
theorem decodedAccess : Obligations.DecodedAccess := by
  intro s a sz v off window mapped
  have hwin (h : window) : inWindow s.params a = true := inWindow_iff.2 h
  have hout (h : ¬ window) : inWindow s.params a = false := Bool.eq_false_iff.2 fun e => h (inWindow_iff.1 e)
  refine ⟨fun hw hoff hsz => ?_, fun hw h => ?_, fun hw hoff hsz => ?_, fun hw h => ?_, fun hw hm => ?_, fun hw hm => ?_⟩
  · rw [busRead_window sz (hwin hw)]
    exact legalReg_map _ hoff (.inl hsz)
  · rw [busRead_window sz (hwin hw)]
    exact legalReg_map_none _ fun ⟨hoff, hsz⟩ => h ⟨hoff, hsz.resolve_right (by simp)⟩
  · rw [busWrite_window sz v (hwin hw)]
    exact legalReg_map _ hoff (hsz.imp_right fun e => ⟨rfl, e⟩)
  · rw [busWrite_window sz v (hwin hw)]
    exact legalReg_map_none _ fun ⟨hoff, hsz⟩ => h ⟨hoff, hsz.imp_right And.right⟩
  · rw [busRead_memory sz (hout hw), busWrite_memory sz v (hout hw)]
    exact ⟨if_pos (allMapped_iff.2 hm), if_pos (allMapped_iff.2 hm)⟩
  · rw [busRead_memory sz (hout hw), busWrite_memory sz v (hout hw)]
    exact ⟨if_neg fun e => hm (allMapped_iff.1 e), if_neg fun e => hm (allMapped_iff.1 e)⟩

/-! ### The host's loads and stores -/

theorem aligned_iff {a : Addr} {sz : Size} : aligned a sz = true ↔ a.toNat % sz.bytes = 0 := by simp [aligned]

theorem hostMemory_misaligned {a : Addr} {sz : Size} (access : State → State) (s : State)
    (h : a.toNat % sz.bytes ≠ 0) : hostMemory a sz access s = hostFault .misalignedMemory none s :=
  if_pos (Bool.eq_false_iff.2 fun e => h (aligned_iff.1 e))

theorem hostMemory_aligned {a : Addr} {sz : Size} (access : State → State) (s : State)
    (h : a.toNat % sz.bytes = 0) : hostMemory a sz access s =
      if allMapped s.params a sz then access s else hostFault (Config.unmappedKind s.stepNo a) none s :=
  if_neg (by simp [aligned_iff.2 h])

theorem hostOp_load_memory {a : Addr} (sz : Size) (h : inWindow s.params a = false) :
    hostOp (.load a sz) s = .next (hostMemory a sz (fun u => returned (memRead a sz u) u) s) := by
  simp [hostOp, hostLoad, h]

theorem hostOp_store_memory {a : Addr} (sz : Size) (v : Word) (h : inWindow s.params a = false) :
    hostOp (.store a sz v) s = .next (hostMemory a sz (fun u => acked (memWrite a sz v u)) s) := by
  simp [hostOp, hostStore, h]

/-- Settles O10: outside the window a load and a store are the same access of memory, by alignment and then by the map. -/
theorem hostLoadsAndStores : Obligations.HostLoadsAndStores := by
  intro s a sz v hw
  rw [hostOp_load_memory sz hw, hostOp_store_memory sz v hw]
  refine ⟨fun hmis => ?_, fun hal hm => ?_, fun hal hm => ?_⟩
  · rw [hostMemory_misaligned _ s hmis, hostMemory_misaligned _ s hmis]
    exact ⟨rfl, rfl⟩
  · rw [hostMemory_aligned _ s hal, hostMemory_aligned _ s hal, if_pos hm, if_pos hm]
    exact ⟨rfl, rfl⟩
  · rw [hostMemory_aligned _ s hal, hostMemory_aligned _ s hal, if_neg (by simp [hm]), if_neg (by simp [hm])]
    exact ⟨Config.unmappedKind s.stepNo a, rfl, rfl⟩

/-! ### Reads -/

/-- A load in the window is a transaction with bit 15 of its header clear, so it reads its register or is a host-access
fault (20_memory.md R95, R100). -/
theorem hostBus_read_cases (sz : Size) (off : BitVec 12) (d : Word) (s : State) :
    (∃ x, hostBus ⟨mkHeader false sz off, d⟩ s = .next (returned x s)) ∨
    (∃ k hdr, hostBus ⟨mkHeader false sz off, d⟩ s = .next (hostFault k hdr s)) := by
  rcases hostBus_cases ⟨mkHeader false sz off, d⟩ s with ⟨i, hd, e⟩ | ⟨k, _, e⟩
  · have reads : i.access = (i.access.1, .read) :=
      Prod.ext rfl (decode_ok_read hd (mkHeader_bit15 false sz off))
    exact .inl ⟨regRead i.access.1 s, e.trans (exec_read reads s)⟩
  · exact .inr ⟨k, _, e⟩

/-- A host load returns a value or is a host-access fault, and does nothing else (20_memory.md R94, R100). -/
theorem hostLoad_cases (a : Addr) (sz : Size) (s : State) :
    (∃ x, hostLoad a sz s = .next (returned x s)) ∨ (∃ k hdr, hostLoad a sz s = .next (hostFault k hdr s)) := by
  unfold hostLoad
  split
  · exact hostBus_read_cases sz _ _ s
  · rcases hostMemory_cases a sz (fun u => returned (memRead a sz u) u) s with ⟨_, _, e⟩ | ⟨k, e⟩ <;> rw [e]
    · exact .inl ⟨_, rfl⟩
    · exact .inr ⟨k, none, rfl⟩

/-- Settles O26: a read instruction returns its register's value, and a load returns a value or is a fault. -/
theorem noReadHasASideEffect : Obligations.NoReadHasASideEffect := by
  constructor
  · intro s i hi
    exact ⟨regRead i.access.1 s, exec_read (Prod.ext rfl hi) s⟩
  · intro s a sz
    rcases hostLoad_cases a sz s with ⟨x, e⟩ | ⟨k, hdr, e⟩
    · exact ⟨_, e, .inl ⟨x, rfl⟩⟩
    · exact ⟨_, e, .inr ⟨k, hdr, rfl⟩⟩

/-! ### Writes that may be repeated -/

/-- The state holds what a write of `v` to `r` leaves; no state does for the registers whose write is not idempotent
(20_memory.md R101). -/
def HoldsWrite (r : Reg) (v : Word) (s : State) : Prop :=
  match r with
  | .chReadAddr n => (s.ch n).readAddr = v
  | .chWriteAddr n => (s.ch n).writeAddr = v
  | .chTransCount n => (s.ch n).tcReload = v
  | .chCtrl n => Ctrl.written (s.ch n).ctrl v = (s.ch n).ctrl
  | .resClaim => s.resClaim = v &&& resClaimMask
  | .genEnable => s.genEnable = v &&& genEnableMask
  | .imemUsed => s.seqState = .idle → s.imemUsed = if v ≤ 32#32 then v else 32#32
  | .seqCfg c => s.seqState = .idle → rdSeqCfg c s = v
  | .status | .genStatus | .seqStatus => True
  | .multiTrig | .genParam _ | .pixTxf | .seqCtrl => False

/-- A second write of the same value to CTRL leaves it as the first did (40_channel_registers.md R156). -/
theorem written_written (c v : Word) : Ctrl.written (Ctrl.written c v) v = Ctrl.written c v := by
  apply BitVec.eq_of_getLsbD_eq
  intro j _
  cases hb : Ctrl.busy c with
  | true =>
    rw [written_of_busy v ((busy_written c v).trans hb), written_of_busy v hb]
    simp only [Ctrl.putEn, getLsbD_putBit]
    split <;> rfl
  | false =>
    rw [getLsbD_written_of_idle v ((busy_written c v).trans hb), getLsbD_written_of_idle v hb]
    split <;> rfl

theorem enableRises_self (w : Word) (g : Gen) : enableRises w w g = false := by simp [enableRises]

/-- Where GEN_ENABLE already holds the value written no enable bit rises, so no NOPROG check fails and no EN_STEP is
recorded (44_timing_generators.md R241). -/
theorem wrGenEnable_eq_self {v : Word} (h : s.genEnable = v &&& genEnableMask) : wrGenEnable v s = s := by
  simp [wrGenEnable, noprogCheck, markEnabled, ← h, enableRises_self]

theorem setSeqCfg_eq_self {c : SeqCfg} {v : Word} (h : rdSeqCfg c s = v) : setSeqCfg c v s = s := by
  subst h
  cases c <;> rfl

theorem rdSeqCfg_setSeqCfg (c : SeqCfg) (v : Word) (s : State) : rdSeqCfg c (setSeqCfg c v s) = v := by
  cases c <;> rfl

/-- A write changes nothing in a state that already holds it. -/
theorem regWrite_eq_self {r : Reg} {v : Word} (h : HoldsWrite r v s) : regWrite r v s = s := by
  cases r with
  | chReadAddr n => cases h; exact State.setCh_self s n
  | chWriteAddr n => cases h; exact State.setCh_self s n
  | chTransCount n => cases h; exact State.setCh_self s n
  | chCtrl n =>
    simp only [HoldsWrite] at h
    simp only [regWrite, wrChCtrl, State.modCtrl, h]
    exact State.setCh_self s n
  | resClaim => simp only [HoldsWrite] at h; simp only [regWrite, wrResClaim, ← h]
  | genEnable => exact wrGenEnable_eq_self h
  | imemUsed =>
    simp only [regWrite, wrImemUsed]
    split
    · next hidle => rw [← h hidle]
    · rfl
  | seqCfg c =>
    simp only [regWrite, wrSeqCfg]
    split
    · next hidle => exact setSeqCfg_eq_self (h hidle)
    · rfl
  | status => rfl
  | genStatus => rfl
  | seqStatus => rfl
  | multiTrig => exact h.elim
  | genParam g => exact h.elim
  | pixTxf => exact h.elim
  | seqCtrl => exact h.elim

/-- After an idempotent write the state holds it. -/
theorem holdsWrite_regWrite {r : Reg} (v : Word) (s : State) (h : idempotentWrite r = true) :
    HoldsWrite r v (regWrite r v s) := by
  cases r with
  | chReadAddr n => simp [HoldsWrite, regWrite]
  | chWriteAddr n => simp [HoldsWrite, regWrite]
  | chTransCount n => simp [HoldsWrite, regWrite]
  | chCtrl n => simp [HoldsWrite, regWrite, written_written]
  | resClaim => rfl
  | genEnable => exact wrGenEnable_genEnable s v
  | imemUsed =>
    intro hidle
    have hidle : s.seqState = .idle := by simpa [regWrite] using hidle
    simp [regWrite, wrImemUsed, hidle]
  | seqCfg c =>
    intro hidle
    have hidle : s.seqState = .idle := by simpa [regWrite] using hidle
    simp [regWrite, wrSeqCfg, hidle, rdSeqCfg_setSeqCfg]
  | status => trivial
  | genStatus => trivial
  | seqStatus => trivial
  | multiTrig => cases h
  | genParam g => cases h
  | pixTxf => cases h
  | seqCtrl => cases h

/-- Neither the host's answer nor the index of the step says whether a state holds a write. -/
theorem HoldsWrite.relabel {r : Reg} {v : Word} (h : HoldsWrite r v s) (k : Nat) :
    HoldsWrite r v { acked s with stepNo := k } := h

/-- A store made twice leaves every byte as it leaves it once. -/
theorem memWrite_twice (a : Addr) (sz : Size) (v : Word) (s : State) (x : Nat) :
    (memWrite a sz v (memWrite a sz v s)).mem.read? x = (memWrite a sz v s).mem.read? x := by
  by_cases hx : ∃ i, i < sz.bytes ∧ x = (addrAt a i).toNat
  · obtain ⟨i, hi, rfl⟩ := hx
    rw [memWrite_read_byte a v _ hi, memWrite_read_byte a v _ hi]
  · exact memWrite_read_of_ne a sz v _ x fun i hi e => hx ⟨i, hi, e⟩

/-- Settles O27: the first write leaves a state that holds it, at any later step too, and there the second changes
nothing. -/
theorem idempotentWrites : Obligations.IdempotentWrites := by
  refine ⟨fun s t i r sz v k hi hr ht => ?_, fun s a sz v x => memWrite_twice a sz v s x⟩
  rw [exec_write hi s] at ht
  cases ht
  have held : HoldsWrite r v { acked (regWrite r v s) with stepNo := k } := (holdsWrite_regWrite v s hr).relabel k
  rw [exec_write hi, regWrite_eq_self held]
  rfl

end Sys2Proof.Machine
end

section
/-! # The encoding (30_encoding.md)

An instruction is its access and a legal header is its fields, so decoding and encoding undo each other; the decoder's
checks in their order; and the step of the host that runs a decoded transaction. -/

namespace Sys2Proof

/-! ### The low part of a data word -/

/-- The low `8 * s` bits of a value (30_encoding.md R123). -/
theorem narrow_toNat (sz : Size) (v : Word) : (narrow sz v).toNat = v.toNat % 2 ^ (8 * sz.bytes) := by
  cases sz <;> simp only [narrow, Size.bytes, BitVec.toNat_setWidth, BitVec.extractLsb'_toNat, Nat.shiftRight_zero] <;> omega

/-- A value is its own low part exactly when it fits the size. -/
theorem narrow_eq_self_iff {sz : Size} {v : Word} : narrow sz v = v ↔ v.toNat < 2 ^ (8 * sz.bytes) := by
  rw [← BitVec.toNat_inj, narrow_toNat]
  exact ⟨fun h => h ▸ Nat.mod_lt _ (Nat.two_pow_pos _), Nat.mod_eq_of_lt⟩

theorem narrow_narrow (sz : Size) (v : Word) : narrow sz (narrow sz v) = narrow sz v := by
  rw [narrow_eq_self_iff, narrow_toNat]
  exact Nat.mod_lt _ (Nat.two_pow_pos _)

theorem narrow_byte (v : Word) : narrow .byte v = v &&& 0x000000FF#32 :=
  BitVec.eq_of_toNat_eq ((narrow_toNat .byte v).trans (Nat.and_two_pow_sub_one_eq_mod v.toNat 8).symm)

theorem narrow_half (v : Word) : narrow .half v = v &&& 0x0000FFFF#32 :=
  BitVec.eq_of_toNat_eq ((narrow_toNat .half v).trans (Nat.and_two_pow_sub_one_eq_mod v.toNat 16).symm)

/-! ### An instruction is its access -/

/-- The instruction of an access. -/
def Access.instr (r : Reg) : Access → Instr
  | .read => r.readInstr
  | .write sz v => r.writeInstr sz v

/-- An instruction is the one of its access (30_encoding.md R127). -/
theorem Instr.instr_access (i : Instr) : i.access.2.instr i.access.1 = i := by
  cases i <;> rfl

/-- Only PIX_TXF has narrow writes (30_encoding.md R127). -/
theorem Instr.write_size {i : Instr} {sz : Size} {v : Word} (h : i.access.2 = .write sz v) :
    sz = .word ∨ i.access.1 = .pixTxf := by
  cases i <;> cases h <;> simp [Instr.access]

/-- An instruction is well formed when the value of its write is the low part that the size names (30_encoding.md R123). -/
theorem Instr.wf_iff {i : Instr} : i.wf = true ↔ ∀ sz v, i.access.2 = .write sz v → narrow sz v = v := by
  cases i with
  | wrPixTxfB v => simp [Instr.wf, Instr.access, narrow_eq_self_iff, Size.bytes]
  | wrPixTxfH v => simp [Instr.wf, Instr.access, narrow_eq_self_iff, Size.bytes]
  | _ => simp [Instr.wf, Instr.access, narrow]

/-! ### A header is its fields -/

/-- A header with bit 14 clear is put together from its direction, size and offset (30_encoding.md R121). -/
theorem mkHeader_fields {h : BitVec 16} {sz : Size} (h14 : h.getLsbD 14 = false) (hz : h.extractLsb' 12 2 = sz.code) :
    mkHeader (h.getLsbD 15) sz (h.extractLsb' 0 12) = h := by
  apply BitVec.eq_of_getLsbD_eq
  intro j hj
  simp only [mkHeader, ← hz, BitVec.getLsbD_append, BitVec.getLsbD_extractLsb']
  rcases (by omega : j < 12 ∨ j = 12 ∨ j = 13 ∨ j = 14 ∨ j = 15) with hlow | rfl | rfl | rfl | rfl
  · simp [hlow]
  · simp
  · simp
  · simpa using h14.symm
  · simp

/-- The reserved size (30_encoding.md R122). -/
theorem Size.ofCode_eq_none_iff {z : BitVec 2} : Size.ofCode? z = none ↔ z = 3#2 := by
  revert z; decide

theorem Size.code_injective : Function.Injective Size.code := fun y z h =>
  Option.some.inj ((Size.ofCode_code y).symm.trans (h ▸ Size.ofCode_code z))

theorem Size.code_eq_word_iff {sz : Size} : sz.code = 2#2 ↔ sz = .word := Size.code_injective.eq_iff (b := .word)

theorem Size.code_ne_reserved (sz : Size) : sz.code ≠ 3#2 := by
  cases sz <;> decide

/-- A header is illegal, with bit 14 set or the reserved size, or it is put together from its fields (30_encoding.md R122,
R124). -/
theorem header_cases (h : BitVec 16) :
    (h.getLsbD 14 = true ∨ h.extractLsb' 12 2 = 3#2) ∨ ∃ w sz off, h = mkHeader w sz off := by
  cases h14 : h.getLsbD 14 with
  | true => exact .inl (.inl rfl)
  | false =>
    cases hz : Size.ofCode? (h.extractLsb' 12 2) with
    | none => exact .inl (.inr (Size.ofCode_eq_none_iff.1 hz))
    | some sz => exact .inr ⟨_, sz, _, (mkHeader_fields h14 (Size.code_of_ofCode hz).symm).symm⟩

/-! ### The decoder's outcomes (30_encoding.md R130), one rule each -/

theorem decode_illegalHeader {t : Transaction} (h : t.hdr.getLsbD 14 = true ∨ t.hdr.extractLsb' 12 2 = 3#2) :
    decode t = .error .illegalHeader := by
  unfold decode
  cases h14 : t.hdr.getLsbD 14 with
  | true => rfl
  | false =>
    have reserved : t.hdr.extractLsb' 12 2 = 3#2 := h.resolve_left (Bool.eq_false_iff.1 h14)
    rw [Size.ofCode_eq_none_iff.2 reserved]

theorem decode_narrowRead {sz : Size} (hsz : sz ≠ .word) (off : BitVec 12) (v : Word) :
    decode ⟨mkHeader false sz off, v⟩ = .error .narrowRead := by
  rw [decode_mkHeader, if_pos ⟨rfl, hsz⟩]

theorem decode_undefinedOffset {w : Bool} {sz : Size} {off : BitVec 12} (hr : ¬(w = false ∧ sz ≠ .word))
    (hoff : Reg.ofOffset? off = none) (v : Word) : decode ⟨mkHeader w sz off, v⟩ = .error .undefinedOffset := by
  rw [decode_mkHeader, if_neg hr, hoff]

theorem decode_narrowWrite {sz : Size} {r : Reg} (hsz : sz ≠ .word) (hr : r ≠ .pixTxf) (v : Word) :
    decode ⟨mkHeader true sz r.offset, v⟩ = .error .narrowWrite := by
  simp [decode_mkHeader, hsz, hr]

theorem decode_read (r : Reg) (v : Word) : decode ⟨mkHeader false .word r.offset, v⟩ = .ok r.readInstr := by
  simp [decode_mkHeader]

theorem decode_write {r : Reg} {sz : Size} (h : sz = .word ∨ r = .pixTxf) (v : Word) :
    decode ⟨mkHeader true sz r.offset, v⟩ = .ok (r.writeInstr sz (narrow sz v)) := by
  have legal : ¬(sz ≠ .word ∧ r ≠ .pixTxf) := fun ⟨hsz, hr⟩ => h.elim hsz hr
  simp [decode_mkHeader, legal]

/-- With none of the checks left the answer is the access that the header names. -/
theorem decode_legal {w : Bool} {sz : Size} {r : Reg} (hread : ¬(w = false ∧ sz ≠ .word))
    (hwrite : ¬(w = true ∧ sz ≠ .word ∧ r ≠ .pixTxf)) (v : Word) :
    ∃ i, decode ⟨mkHeader w sz r.offset, v⟩ = .ok i ∧
      i.access = (r, if w = true then .write sz (narrow sz v) else .read) := by
  cases w with
  | false =>
    obtain rfl : sz = .word := not_not.1 fun hsz => hread ⟨rfl, hsz⟩
    exact ⟨r.readInstr, decode_read r v, r.readInstr_access⟩
  | true =>
    have allowed : sz = .word ∨ r = .pixTxf := by
      by_contra refused
      exact hwrite ⟨rfl, not_or.1 refused⟩
    exact ⟨r.writeInstr sz (narrow sz v), decode_write allowed v, r.writeInstr_access sz _ allowed⟩

/-- A transaction that decodes is a word read of a register, or a write of a size that the register allows. -/
theorem decode_ok_cases {t : Transaction} {i : Instr} (h : decode t = .ok i) :
    (∃ r : Reg, t.hdr = mkHeader false .word r.offset ∧ i = r.readInstr) ∨
    (∃ (r : Reg) (sz : Size), (sz = .word ∨ r = .pixTxf) ∧ t.hdr = mkHeader true sz r.offset ∧
      i = r.writeInstr sz (narrow sz t.data)) := by
  obtain ⟨r, hr, h14, ⟨h15, hz, rfl⟩ | ⟨sz, h15, hz, hsz, rfl⟩⟩ := decode_ok h
  · refine .inl ⟨r, ?_, rfl⟩
    rw [Reg.offset_of_ofOffset hr, ← h15, mkHeader_fields (sz := .word) h14 hz]
  · refine .inr ⟨r, sz, hsz, ?_, rfl⟩
    rw [Reg.offset_of_ofOffset hr, ← h15, mkHeader_fields h14 hz]

/-! ### Decoding and encoding undo each other -/

/-- The encoding of an access decodes to its instruction, if the register allows its size and its value fits the size. -/
theorem decode_encodeAccess {r : Reg} {a : Access}
    (h : ∀ sz v, a = .write sz v → (sz = .word ∨ r = .pixTxf) ∧ narrow sz v = v) :
    decode (encodeAccess r a) = .ok (a.instr r) := by
  cases a with
  | read => exact decode_read r 0#32
  | write sz v =>
    obtain ⟨hsz, hv⟩ := h sz v rfl
    rw [encodeAccess, decode_write hsz, hv, Access.instr]

/-- Settles O1: an instruction is that of its access, and the access's size and value are those the decoder keeps. -/
theorem decodeOfEncode : Obligations.DecodeOfEncode := by
  intro i hwf
  have kept : decode (encode i) = .ok (i.access.2.instr i.access.1) :=
    decode_encodeAccess fun sz v ha => ⟨Instr.write_size ha, Instr.wf_iff.1 hwf sz v ha⟩
  rw [kept, Instr.instr_access]

/-- A decoded instruction is well formed: its value has been cut to its size (30_encoding.md R123). -/
theorem wf_of_decode {t : Transaction} {i : Instr} (h : decode t = .ok i) : i.wf = true := by
  rw [Instr.wf_iff]
  obtain ⟨r, _, rfl⟩ | ⟨r, sz, hsz, _, rfl⟩ := decode_ok_cases h
  · simp
  · rw [Reg.writeInstr_access r sz _ hsz]
    rintro _ _ ⟨⟩
    exact narrow_narrow sz t.data

/-- Settles O2: by what a transaction that decodes is; for a write, by its size. -/
theorem encodeOfDecode : Obligations.EncodeOfDecode := by
  intro t i h
  refine ⟨wf_of_decode h, ?_⟩
  obtain ⟨r, hhdr, rfl⟩ | ⟨r, sz, hsz, hhdr, rfl⟩ := decode_ok_cases h
  · rw [encode, Reg.readInstr_access, hhdr, mkHeader_bit15]
    exact ⟨rfl, rfl⟩
  · rw [encode, Reg.writeInstr_access r sz _ hsz, hhdr, mkHeader_bit15, mkHeader_size]
    refine ⟨rfl, ?_⟩
    cases sz with
    | byte => exact narrow_byte t.data
    | half => exact narrow_half t.data
    | word => rfl

end Sys2Proof

namespace Sys2Proof.Machine

variable {s : State}

/-! ### The order of the checks -/

theorem rejected_of_decode {t : Transaction} {k : HostFaultKind} (h : decode t = .error k) : rejected t k :=
  ⟨h, fun s => by rw [hostBus, h]; rfl⟩

theorem hostBus_of_decode {t : Transaction} {i : Instr} (h : decode t = .ok i) (s : State) : hostBus t s = exec i s := by
  rw [hostBus, h]

theorem ofOffset_eq_none_iff {off : BitVec 12} : Reg.ofOffset? off = none ↔ off ∉ definedOffsets := by
  simp only [Option.eq_none_iff_forall_ne_some, ne_eq, ofOffset_eq_some_iff, mem_definedOffsets, not_exists]

/-- Settles O3: an illegal header is rejected first; any other is put together from its fields, and each check in turn
has its rule. -/
theorem decoderInOrder : Obligations.DecoderInOrder := by
  rintro ⟨hdr, d⟩
  rcases header_cases hdr with illegal | ⟨w, sz, off, rfl⟩
  · exact (if_pos illegal).mpr (rejected_of_decode (decode_illegalHeader illegal))
  have legal : ¬(false = true ∨ sz.code = 3#2) := by simp [Size.code_ne_reserved]
  simp only [mkHeader_bit15, mkHeader_bit14, mkHeader_size, mkHeader_offset, if_neg legal, ne_eq, Size.code_eq_word_iff]
  by_cases narrowRead : w = false ∧ ¬sz = .word
  · rw [if_pos narrowRead]
    obtain ⟨rfl, hsz⟩ := narrowRead
    exact rejected_of_decode (decode_narrowRead hsz off d)
  rw [if_neg narrowRead]
  by_cases undefined : off ∉ definedOffsets
  · rw [if_pos undefined]
    exact rejected_of_decode (decode_undefinedOffset narrowRead (ofOffset_eq_none_iff.2 undefined) d)
  rw [if_neg undefined]
  obtain ⟨r, rfl⟩ := mem_definedOffsets.1 (not_not.1 undefined)
  simp only [offset_eq_pixTxf_iff]
  by_cases narrowWrite : w = true ∧ ¬sz = .word ∧ ¬r = .pixTxf
  · rw [if_pos narrowWrite]
    obtain ⟨rfl, hsz, hr⟩ := narrowWrite
    exact rejected_of_decode (decode_narrowWrite hsz hr d)
  rw [if_neg narrowWrite]
  obtain ⟨i, decoded, access⟩ := decode_legal narrowRead narrowWrite d
  refine ⟨i, decoded, ?_⟩
  rw [access]
  refine ⟨rfl, ?_, ?_, ?_, ?_, hostBus_of_decode decoded⟩
  · rintro rfl
    rfl
  · rintro rfl hz
    obtain rfl : sz = .byte := Size.code_injective hz
    exact congrArg _ (narrow_byte d)
  · rintro rfl hz
    obtain rfl : sz = .half := Size.code_injective hz
    exact congrArg _ (narrow_half d)
  · rintro rfl rfl
    rfl

/-! ### Words of the opcode table -/

/-- Settles O4: each word is a fixed number, which the decoder is run on. -/
theorem wordsOfTheTable : Obligations.WordsOfTheTable := by
  unfold Obligations.WordsOfTheTable
  decide

/-! ### The step of the host -/

/-- The host's turn performs the transaction that is its next access (30_encoding.md R120). -/
theorem step_of_bus {t : Transaction} {rest : List HostOp} (ha : nextAgent s = .host) (hq : s.hostQ = .bus t :: rest) :
    step s = counted (hostBus t { takeTurn s with hostQ := rest }) := by
  simp [step, stepOnce, ha, agentStep, hostStep, hq, hostOp]

theorem decode_of_decodeTableWord {nbits w : Nat} {i : Instr} (h : decodeTableWord nbits w = some i) :
    decode (transactionOfNat nbits w) = .ok i := by
  unfold decodeTableWord at h
  cases hd : decode (transactionOfNat nbits w) with
  | error k => rw [hd] at h; cases h
  | ok j => rw [hd] at h; cases h; rfl

/-- A placed transaction has the very next turn, which leaves the host's list and the turns as they were (assumption 6). -/
theorem step_placeTransaction {t : Transaction} {i : Instr} (hd : decode t = .ok i) (s : State) :
    step (placeTransaction t s) = counted (exec i s) :=
  step_of_transaction (s := placeTransaction t s) (rest := s.hostQ) rfl rfl hd

/-- Settles O5: the host's turn performs the transaction, and a placed one has the very next turn. -/
theorem stepRunsTransaction : Obligations.StepRunsTransaction := by
  refine ⟨fun s t rest i ha hq hd => ⟨wf_of_decode hd, ?_⟩, fun s t rest k ha hq hd => ?_, fun s nbits w i hd => ?_⟩
  · rw [step_of_transaction ha hq hd, takeTurn]
  · obtain ⟨_, recorded⟩ := rejected_of_decode hd
    rw [step_of_bus ha hq, recorded]
    rfl
  · rw [State.withFetchWord, step_placeTransaction (decode_of_decodeTableWord hd)]

end Sys2Proof.Machine
end

section
/-! # The channel and global registers (40_channel_registers.md)

A channel's access to the window and the host's transaction there have one answer, since the decoder allows exactly the
legal register accesses; the bits a write of CTRL takes; a trigger of one channel, by itself and within one write of
MULTI_TRIG; and the register operations that set, return or ignore a value. -/

namespace Sys2Proof.Machine

variable {s t : State}

/-! ### A register access by a channel and by the host -/

theorem legalReg_offset {r : Reg} {sz : Size} {w : Bool} (hread : ¬(w = false ∧ sz ≠ .word))
    (hwrite : ¬(w = true ∧ sz ≠ .word ∧ r ≠ .pixTxf)) : legalReg? r.offset sz w = some r := by
  rw [legalReg_eq_some_iff, offset_eq_pixTxf_iff]
  cases w <;> tauto

theorem legalReg_narrowRead {sz : Size} (hsz : sz ≠ .word) (off : BitVec 12) : legalReg? off sz false = none := by
  simp [Option.eq_none_iff_forall_ne_some, legalReg_eq_some_iff, hsz]

theorem legalReg_undefinedOffset {off : BitVec 12} (h : Reg.ofOffset? off = none) (sz : Size) (w : Bool) :
    legalReg? off sz w = none := by
  rw [legalReg?, h]

theorem legalReg_narrowWrite {sz : Size} {r : Reg} (hsz : sz ≠ .word) (hr : r ≠ .pixTxf) :
    legalReg? r.offset sz true = none := by
  simp [Option.eq_none_iff_forall_ne_some, legalReg_eq_some_iff, offset_eq_pixTxf_iff, hsz, hr]

/-- The decoder accepts exactly the legal register accesses, each as the access of that register: its checks and those of
`legal_reg` are the same (20_memory.md R95; 30_encoding.md R130). -/
theorem decode_legalReg (w : Bool) (sz : Size) (off : BitVec 12) (v : Word) :
    (∃ i r, decode ⟨mkHeader w sz off, v⟩ = .ok i ∧ legalReg? off sz w = some r ∧
      i.access = (r, if w = true then .write sz (narrow sz v) else .read)) ∨
    (∃ k, decode ⟨mkHeader w sz off, v⟩ = .error k ∧ legalReg? off sz w = none) := by
  by_cases narrowRead : w = false ∧ sz ≠ .word
  · obtain ⟨rfl, hsz⟩ := narrowRead
    exact .inr ⟨_, decode_narrowRead hsz off v, legalReg_narrowRead hsz off⟩
  cases hoff : Reg.ofOffset? off with
  | none => exact .inr ⟨_, decode_undefinedOffset narrowRead hoff v, legalReg_undefinedOffset hoff sz w⟩
  | some r =>
    obtain rfl := Reg.offset_of_ofOffset hoff
    by_cases narrowWrite : w = true ∧ sz ≠ .word ∧ r ≠ .pixTxf
    · obtain ⟨rfl, hsz, hr⟩ := narrowWrite
      exact .inr ⟨_, decode_narrowWrite hsz hr v, legalReg_narrowWrite hsz hr⟩
    · obtain ⟨i, decoded, access⟩ := decode_legal narrowRead narrowWrite v
      exact .inl ⟨i, r, decoded, legalReg_offset narrowRead narrowWrite, access⟩

theorem legalReg_of_decode_ok {w : Bool} {sz : Size} {off : BitVec 12} {v : Word} {i : Instr}
    (h : decode ⟨mkHeader w sz off, v⟩ = .ok i) :
    ∃ r, legalReg? off sz w = some r ∧ i.access = (r, if w = true then .write sz (narrow sz v) else .read) := by
  rcases decode_legalReg w sz off v with ⟨j, r, hj, legal, access⟩ | ⟨k, hk, _⟩
  · obtain rfl : j = i := Except.ok.inj (hj.symm.trans h)
    exact ⟨r, legal, access⟩
  · rw [hk] at h; cases h

theorem legalReg_of_decode_error {w : Bool} {sz : Size} {off : BitVec 12} {v : Word} {k : HostFaultKind}
    (h : decode ⟨mkHeader w sz off, v⟩ = .error k) : legalReg? off sz w = none := by
  rcases decode_legalReg w sz off v with ⟨i, r, hi, _, _⟩ | ⟨_, _, illegal⟩
  · rw [hi] at h; cases h
  · exact illegal

/-- Every size keeps the low byte of a value. -/
theorem extractLsb_narrow (sz : Size) (v : Word) : (narrow sz v).extractLsb' 0 8 = v.extractLsb' 0 8 := by
  apply BitVec.eq_of_toNat_eq
  simp only [BitVec.extractLsb'_toNat, narrow_toNat, Nat.shiftRight_zero]
  cases sz <;> simp only [Size.bytes] <;> omega

/-- Cutting the value to the size of a legal write changes nothing: PIX_TXF takes bits 7:0 of any (R246). -/
theorem regWrite_narrow {r : Reg} {sz : Size} (h : sz = .word ∨ r = .pixTxf) (v : Word) (s : State) :
    regWrite r (narrow sz v) s = regWrite r v s := by
  rcases h with rfl | rfl
  · rfl
  · simp only [regWrite, wrPixTxf, extractLsb_narrow]

/-- Settles O9: the access decodes to a register exactly when the transaction does, and to the same one; of a write's value
the register takes the part the decoder keeps. -/
theorem channelAccessIsHostAccess : Obligations.ChannelAccessIsHostAccess := by
  intro s a sz v d hw
  rw [busWrite_window sz v hw, busRead_window sz hw]
  refine ⟨fun i hi => ?_, fun k hk => ?_, fun i hi => ?_, fun k hk => ?_⟩
  · obtain ⟨r, legal, access⟩ := legalReg_of_decode_ok hi
    have allowed : sz = .word ∨ r = .pixTxf := by
      simpa only [access] using Instr.write_size (congrArg Prod.snd access)
    exact ⟨regWrite r v s, by rw [legal]; rfl, by rw [exec_write access, regWrite_narrow allowed]; rfl⟩
  · rw [legalReg_of_decode_error hk]; rfl
  · obtain ⟨r, legal, access⟩ := legalReg_of_decode_ok hi
    exact ⟨regRead r s, by rw [legal]; rfl, exec_read access s⟩
  · rw [legalReg_of_decode_error hk]; rfl

/-! ### Writes of CTRL -/

/-- The writable bits of CTRL, by number (40_channel_registers.md R156). -/
theorem getLsbD_writeMask {j : Nat} (hj : j < 32) :
    Ctrl.writeMask.getLsbD j = decide (j ∈ [0, 2, 3, 4, 5, 8, 9, 10, 12, 13]) := by
  revert j; decide

/-- Bit `j` of CTRL after a write, by whether the channel is busy (40_channel_registers.md R156). -/
theorem getLsbD_written (c v : Word) {j : Nat} (hj : j < 32) :
    (Ctrl.written c v).getLsbD j =
      if c.getLsbD 24 then (if j = 0 then v.getLsbD 0 else c.getLsbD j)
      else if j ∈ [0, 2, 3, 4, 5, 8, 9, 10, 12, 13] then v.getLsbD j else c.getLsbD j := by
  cases hb : c.getLsbD 24 with
  | true =>
    rw [written_of_busy v hb, Ctrl.putEn, getLsbD_putBit]
    simp
  | false =>
    rw [getLsbD_written_of_idle v hb, getLsbD_writeMask hj]
    simp

/-- Settles O13: each channel's CTRL becomes `Ctrl.written` of it, whose bits are known. -/
theorem writeControl : Obligations.WriteControl := by
  intro s v writes
  have bits (c : Word) : writes c (Ctrl.written c v) := fun _ hj => getLsbD_written c v hj
  exact ⟨⟨_, rfl, bits _⟩, ⟨_, rfl, bits _⟩, ⟨_, rfl, bits _⟩⟩

/-! ### One channel's trigger -/

/-- The six cases of a trigger look at the triggered channel only (41_transfer_engine.md R171). -/
theorem trigger_ch_congr {n : Chan} (h : t.ch n = s.ch n) : (trigger n t).ch n = (trigger n s).ch n := by
  unfold trigger
  rw [h]
  split_ifs
  · exact h
  · exact h
  · exact h
  · simp [raiseEvent_ch, errorEffect, h]
  · simp
  · simp

theorem cfgErrDue_congr {n : Chan} (h : t.ch n = s.ch n) : cfgErrDue t n = cfgErrDue s n := by
  simp only [cfgErrDue, h]

theorem cfgErrDue_iff {n : Chan} : cfgErrDue s n = true ↔
    Ctrl.busy (s.ch n).ctrl = false ∧ Ctrl.err (s.ch n).ctrl = false ∧ Ctrl.en (s.ch n).ctrl = true ∧
      Ctrl.configLegal (s.ch n).ctrl = false := by
  simp [cfgErrDue, and_assoc]

theorem trigger_of_cfgErrDue {n : Chan} (h : cfgErrDue s n = true) : trigger n s = raiseEvent (.cfgErr n) s := by
  obtain ⟨hbusy, herr, hen, hconf⟩ := cfgErrDue_iff.1 h
  simp [trigger, hbusy, herr, hen, hconf]

/-- A trigger records CFG_ERR or nothing (41_transfer_engine.md R171 case 4). -/
theorem trigger_faults (n : Chan) (s : State) :
    (trigger n s).faults = s.faults ++ if cfgErrDue s n then [.cfgErr n] else [] := by
  by_cases due : cfgErrDue s n = true
  · rw [trigger_of_cfgErrDue due, if_pos due, raiseEvent_faults]
  · rw [if_neg due, List.append_nil]
    rcases trigger_cases s n with e | ⟨hbusy, herr, hen, ⟨hconf, _⟩ | ⟨_, _, e⟩ | ⟨_, _, e⟩⟩
    · rw [e]
    · exact absurd (cfgErrDue_iff.2 ⟨hbusy, herr, hen, hconf⟩) due
    · rw [e, State.setCh_faults]
    · rw [e, State.setCh_faults]

/-! ### Writes of MULTI_TRIG -/

/-- The state `s` with the channels and FAULTS of `u`. -/
def State.withChannelsOf (s u : State) : State :=
  { s with ch0 := u.ch0, ch1 := u.ch1, ch2 := u.ch2, faults := u.faults }

theorem State.withChannelsOf_trans {u : State} (h : t = s.withChannelsOf t) (h' : u = t.withChannelsOf u) :
    u = s.withChannelsOf u :=
  calc u = t.withChannelsOf u := h'
    _ = (s.withChannelsOf t).withChannelsOf u := congrArg (State.withChannelsOf · u) h
    _ = s.withChannelsOf u := rfl

/-- A trigger changes nothing but the channels and FAULTS (41_transfer_engine.md R171). -/
theorem trigger_frame (n : Chan) (s : State) : trigger n s = s.withChannelsOf (trigger n s) := by
  rcases trigger_cases s n with e | ⟨_, _, _, ⟨_, e⟩ | ⟨_, _, e⟩ | ⟨_, _, e⟩⟩ <;> rw [e] <;> rfl

theorem triggerIf_frame (b : Bool) (n : Chan) (s : State) : triggerIf b n s = s.withChannelsOf (triggerIf b n s) := by
  cases b
  · rfl
  · exact trigger_frame n s

theorem wrMultiTrig_frame (v : Word) (s : State) : wrMultiTrig v s = s.withChannelsOf (wrMultiTrig v s) :=
  State.withChannelsOf_trans (State.withChannelsOf_trans (triggerIf_frame _ .ch0 s) (triggerIf_frame _ .ch1 _))
    (triggerIf_frame _ .ch2 _)

/-- A channel's part of the write does to it what it would have done at the start, if the parts before left it alone. -/
theorem triggerIf_ch_same {n : Chan} (b : Bool) (h : t.ch n = s.ch n) :
    (triggerIf b n t).ch n = if b then (trigger n s).ch n else s.ch n := by
  cases b
  · exact h
  · exact trigger_ch_congr h

theorem triggerIf_faults {n : Chan} (b : Bool) (h : t.ch n = s.ch n) :
    (triggerIf b n t).faults = t.faults ++ if b && cfgErrDue s n then [.cfgErr n] else [] := by
  cases b
  · simp [triggerIf]
  · exact (trigger_faults n t).trans (by rw [cfgErrDue_congr h, Bool.true_and])

/-- Each named channel is triggered as if it were the only one (40_channel_registers.md R158). -/
theorem wrMultiTrig_ch (v : Word) (s : State) (n : Chan) :
    (wrMultiTrig v s).ch n = if v.getLsbD n.index then (trigger n s).ch n else s.ch n := by
  unfold wrMultiTrig
  cases n with
  | ch0 =>
    rw [triggerIf_ch_of_ne _ _ (by decide), triggerIf_ch_of_ne _ _ (by decide)]
    exact triggerIf_ch_same _ rfl
  | ch1 =>
    rw [triggerIf_ch_of_ne _ _ (by decide)]
    exact triggerIf_ch_same _ (triggerIf_ch_of_ne _ _ (by decide))
  | ch2 =>
    exact triggerIf_ch_same _
      ((triggerIf_ch_of_ne _ _ (by decide)).trans (triggerIf_ch_of_ne _ _ (by decide)))

/-- The CFG_ERRs of one write, in ascending order of the channels (60_exceptions.md R321). -/
theorem wrMultiTrig_faults (v : Word) (s : State) :
    (wrMultiTrig v s).faults = s.faults ++
      (([Chan.ch0, Chan.ch1, Chan.ch2].filter fun n => v.getLsbD n.index && cfgErrDue s n).map .cfgErr) := by
  have keep1 : (triggerIf (v.getLsbD 0) .ch0 s).ch .ch1 = s.ch .ch1 := triggerIf_ch_of_ne _ _ (by decide)
  have keep2 : (triggerIf (v.getLsbD 1) .ch1 (triggerIf (v.getLsbD 0) .ch0 s)).ch .ch2 = s.ch .ch2 :=
    (triggerIf_ch_of_ne _ _ (by decide)).trans (triggerIf_ch_of_ne _ _ (by decide))
  rw [wrMultiTrig, triggerIf_faults _ keep2, triggerIf_faults _ keep1, triggerIf_faults (s := s) _ rfl]
  simp only [List.filter_cons, List.filter_nil, Chan.index, List.append_assoc]
  split_ifs <;> rfl

/-- Settles O14: by the channels, FAULTS and the frame of the write. -/
theorem writeMultiTrig : Obligations.WriteMultiTrig := fun s v =>
  ⟨acked (wrMultiTrig v s), rfl, congrArg acked (wrMultiTrig_frame v s), wrMultiTrig_ch v s,
    wrMultiTrig_faults v s⟩

/-! ### Registers that hold, return or ignore a value -/

/-- Settles O11: each of the nine instructions sets one field of one channel. -/
theorem writeChannelRegisters : Obligations.WriteChannelRegisters := fun _ _ =>
  ⟨rfl, rfl, rfl, rfl, rfl, rfl, rfl, rfl, rfl⟩

/-- Settles O12: each of the twelve instructions returns one field of one channel. -/
theorem readChannelRegisters : Obligations.ReadChannelRegisters := fun _ =>
  ⟨rfl, rfl, rfl, rfl, rfl, rfl, rfl, rfl, rfl, rfl, rfl, rfl⟩

/-- Settles O16: the three writes are the identity, the six reads the constant 0. -/
theorem readOnlyAndWriteOnly : Obligations.ReadOnlyAndWriteOnly := fun _ _ =>
  ⟨rfl, rfl, rfl, rfl, rfl, rfl, rfl, rfl, rfl⟩

/-- Settles O17: the mask of the model is the one of R162. -/
theorem resourceClaims : Obligations.ResourceClaims := fun _ _ => ⟨rfl, rfl⟩

/-! ### Every instruction -/

/-- Settles O28: an instruction is a register's write or its read, and neither touches the five fields. -/
theorem noInstructionIsRefused : Obligations.NoInstructionIsRefused := by
  intro s i
  rcases exec_cases i s with ⟨r, sz, v, _, e⟩ | ⟨r, _, e⟩
  · exact ⟨_, e, regWrite_params s r v, regWrite_sched s r v, regWrite_hostQ s r v, regWrite_stepNo s r v,
      regWrite_mem s r v⟩
  · exact ⟨_, e, rfl, rfl, rfl, rfl, rfl⟩

end Sys2Proof.Machine
end

section
/-! # The transfer engine (41_transfer_engine.md)

A trigger by its cases; what a busy channel's turn comes to in each phase, with completion and chaining; what an
element's write leaves alone; and how a channel can come to be busy. -/

namespace Sys2Proof.Machine

variable {s t : State} {c : Word}

/-! ### The fields of CTRL as numbers -/

theorem err_iff : Ctrl.err c = true ↔ c.getLsbD 29 = true ∨ c.getLsbD 30 = true ∨ c.getLsbD 31 = true := by
  simp [Ctrl.err, Ctrl.cfgErr, Ctrl.readErr, Ctrl.writeErr, or_assoc]

/-- The configurations a trigger accepts (41_transfer_engine.md R172). -/
theorem configLegal_iff : Ctrl.configLegal c = true ↔
    Ctrl.dataSize c ≠ 3#2 ∧ (Ctrl.chainTo c).toNat ≤ 2 ∧ (Ctrl.treqSel c).toNat ≤ 1 := by
  simp [Ctrl.configLegal, BitVec.le_def, and_assoc]

/-- DATA_SIZE names the size whose code it holds (10_state.md R38). -/
theorem size_of_code {sz : Size} (h : Ctrl.dataSize c = sz.code) : Ctrl.size? c = some sz := by
  rw [Ctrl.size?, h, Size.ofCode_code]

/-- CHAIN_TO names the channel whose number it holds (10_state.md R41). -/
theorem chain_eq_some_iff {m : Chan} : Ctrl.chain? c = some m ↔ (Ctrl.chainTo c).toNat = m.index := by
  unfold Ctrl.chain?
  generalize Ctrl.chainTo c = k
  revert k
  cases m <;> decide

/-- A CHAIN_TO that is not reserved names a channel (10_state.md R41). -/
theorem exists_chain (h : (Ctrl.chainTo c).toNat ≤ 2) : ∃ m, Ctrl.chain? c = some m := by
  have named : ∀ k, k ≤ 2 → ∃ m : Chan, k = m.index := fun k hk => by
    interval_cases k
    exacts [⟨.ch0, rfl⟩, ⟨.ch1, rfl⟩, ⟨.ch2, rfl⟩]
  obtain ⟨m, hm⟩ := named _ h
  exact ⟨m, chain_eq_some_iff.2 hm⟩

/-! ### The cases of a trigger -/

/-- A trigger of a channel that is not enabled is ignored (41_transfer_engine.md R171 case 3). -/
theorem trigger_of_disabled {n : Chan} (h : Ctrl.en (s.ch n).ctrl = false) : trigger n s = s := by
  simp [trigger, h]

/-- A trigger with a reload count of 0 starts nothing (41_transfer_engine.md R171 case 5). -/
theorem trigger_of_zeroCount {n : Chan} (hb : Ctrl.busy (s.ch n).ctrl = false) (he : Ctrl.err (s.ch n).ctrl = false)
    (hen : Ctrl.en (s.ch n).ctrl = true) (hc : Ctrl.configLegal (s.ch n).ctrl = true) (hz : (s.ch n).tcReload = 0#32) :
    trigger n s = s.setCh n { s.ch n with tcRemain := 0#32 } := by
  simp [trigger, hb, he, hen, hc, hz]

/-- Settles O29: one rule for each case, and what each does to CTRL is its row's mask. -/
theorem triggerCases : Obligations.TriggerCases := by
  intro s n c legal failed ready
  have noErr (h : ¬ failed) : Ctrl.err c.ctrl = false := Bool.eq_false_iff.2 fun e => h (err_iff.1 e)
  refine ⟨?lost, ?illegal, ?zero, ?start⟩
  case lost =>
    rintro (hbusy | hfailed | hen)
    · exact trigger_of_busy s hbusy
    · exact trigger_of_err s (err_iff.2 hfailed)
    · exact trigger_of_disabled hen
  case illegal =>
    rintro ⟨hbusy, hfailed, hen⟩ hlegal
    exact trigger_of_cfgErrDue (cfgErrDue_iff.2
      ⟨hbusy, noErr hfailed, hen, Bool.eq_false_iff.2 fun e => hlegal (configLegal_iff.1 e)⟩)
  case zero =>
    rintro ⟨hbusy, hfailed, hen⟩ hlegal hcount
    exact trigger_of_zeroCount hbusy (noErr hfailed) hen (configLegal_iff.2 hlegal) hcount
  case start =>
    rintro ⟨hbusy, hfailed, hen⟩ hlegal hcount
    exact trigger_of_start s hbusy (noErr hfailed) hen (configLegal_iff.2 hlegal) hcount

/-! ### Whether a channel has a step -/

/-- A busy, enabled channel at its write phase, or ready at its read phase, has a step (41_transfer_engine.md R175). -/
theorem chEnabled_iff {n : Chan} : chEnabled n s = true ↔
    Ctrl.busy (s.ch n).ctrl = true ∧ Ctrl.en (s.ch n).ctrl = true ∧
      ((s.ch n).phase = .write ∨ Ctrl.treqSel (s.ch n).ctrl = 0#2 ∨
        (Ctrl.treqSel (s.ch n).ctrl = 1#2 ∧ s.pixQ.length < s.params.pixDepth)) := by
  simp [chEnabled, chReady, and_assoc]

/-- Settles O33: by what `chEnabled` asks, and for the turn itself by the rule of an idle turn. -/
theorem stallAndPause : Obligations.StallAndPause := by
  intro s n c
  refine ⟨?paused, ?stalled, ?going, ?turn⟩
  case paused =>
    intro hen
    simp [chEnabled, c, hen]
  case stalled =>
    intro hphase htreq hfull
    simp [chEnabled, chReady, hphase, c, htreq, Nat.not_lt.2 hfull]
  case going => exact fun hbusy hen hready => chEnabled_iff.2 ⟨hbusy, hen, hready⟩
  case turn =>
    intro hturn hidle
    exact idleTurnChangesNothing s (by rw [hturn]; exact hidle)

/-! ### The read phase -/

@[simp] theorem chEnabled_takeTurn (n : Chan) (s : State) : chEnabled n (takeTurn s) = chEnabled n s := rfl

/-- The value read does not depend on whose turn it is. -/
@[simp] theorem busRead_takeTurn (a : Addr) (sz : Size) (s : State) : busRead a sz (takeTurn s) = busRead a sz s := by
  have reg : ∀ r, regRead r (takeTurn s) = regRead r s := fun r => by cases r <;> rfl
  simp only [busRead, reg]
  rfl

/-- A channel with the turn and a step at its read phase takes it (41_transfer_engine.md R176, R177). -/
theorem step_of_readPhase {n : Chan} {sz : Size} (hturn : nextAgent s = .chan n) (hen : chEnabled n s = true)
    (hphase : (s.ch n).phase = .read) (hsize : Ctrl.dataSize (s.ch n).ctrl = sz.code)
    (hchain : (Ctrl.chainTo (s.ch n).ctrl).toNat ≤ 2) :
    step s = .next (countStep (chReadPhase n sz (takeTurn s))) := by
  obtain ⟨m, hm⟩ := exists_chain hchain
  simp [step, stepOnce, hturn, agentStep, chStep, hen, size_of_code hsize, hm, hphase, counted]

theorem chReadPhase_of_fault {n : Chan} {sz : Size}
    (h : (s.ch n).readAddr.toNat % sz.bytes ≠ 0 ∨ busRead (s.ch n).readAddr sz s = none) :
    chReadPhase n sz s = raiseEvent (.readErr n (s.ch n).readAddr) s := by
  rcases chReadPhase_cases n sz s with e | ⟨x, hal, hx, _⟩
  · exact e
  · rcases h with hmis | hnone
    · exact absurd (aligned_iff.1 hal) hmis
    · rw [hnone] at hx; cases hx

theorem chReadPhase_of_value {n : Chan} {sz : Size} {x : Word} (hal : (s.ch n).readAddr.toNat % sz.bytes = 0)
    (hx : busRead (s.ch n).readAddr sz s = some x) :
    chReadPhase n sz s = s.setCh n { s.ch n with hold := x, phase := .write } := by
  simp [chReadPhase, aligned_iff.2 hal, hx]

/-- A read that fails stops the channel: READ_ERR rises and BUSY falls in the one step (60_exceptions.md R311). -/
theorem raiseEvent_readErr (n : Chan) (a : Addr) (s : State) :
    raiseEvent (.readErr n a) s =
      { s.setCh n { s.ch n with ctrl := ((s.ch n).ctrl ||| 0x40000000#32) &&& ~~~0x01000000#32 } with
        faults := s.faults ++ [.readErr n a] } := rfl

/-- Settles O30: the turn is the read phase's step, and that by whether the read has a value. -/
theorem readPhase : Obligations.ReadPhase := by
  intro s n sz u c hturn hbusy hen hphase hsize hchain hready
  have keep : u.ch n = c := takeTurn_ch s n
  rw [step_of_readPhase hturn (chEnabled_iff.2 ⟨hbusy, hen, .inr hready⟩) hphase hsize hchain]
  refine ⟨fun hfault => ?_, fun x hal hx => ?_⟩
  · rw [chReadPhase_of_fault (by rwa [takeTurn_ch, busRead_takeTurn]), raiseEvent_readErr, keep]
    rfl
  · rw [chReadPhase_of_value (x := x) (by rwa [keep]) (by rwa [keep, busRead_takeTurn]), keep]

/-! ### The write phase -/

/-- A channel with the turn and a step at its write phase takes it (41_transfer_engine.md R176, R179). -/
theorem step_of_writePhase {n : Chan} {sz : Size} (hturn : nextAgent s = .chan n) (hen : chEnabled n s = true)
    (hphase : (s.ch n).phase = .write) (hsize : Ctrl.dataSize (s.ch n).ctrl = sz.code)
    (hchain : (Ctrl.chainTo (s.ch n).ctrl).toNat ≤ 2) :
    step s = .next (countStep (chWritePhase n sz (takeTurn s))) := by
  obtain ⟨m, hm⟩ := exists_chain hchain
  simp [step, stepOnce, hturn, agentStep, chStep, hen, size_of_code hsize, hm, hphase, counted]

theorem chWritePhase_of_fault {n : Chan} {sz : Size}
    (h : (s.ch n).writeAddr.toNat % sz.bytes ≠ 0 ∨ busWrite (s.ch n).writeAddr sz (s.ch n).hold s = none) :
    chWritePhase n sz s = raiseEvent (.writeErr n (s.ch n).writeAddr) s := by
  rcases chWritePhase_cases n sz s with e | ⟨w, hal, hw, _⟩
  · exact e
  · rcases h with hmis | hnone
    · exact absurd (aligned_iff.1 hal) hmis
    · rw [hnone] at hw; cases hw

theorem chWritePhase_of_written {n : Chan} {sz : Size} {w : State} (hal : (s.ch n).writeAddr.toNat % sz.bytes = 0)
    (hw : busWrite (s.ch n).writeAddr sz (s.ch n).hold s = some w) : chWritePhase n sz s = finishElement n sz w := by
  simp [chWritePhase, aligned_iff.2 hal, hw]

/-- A write that fails stops the channel: WRITE_ERR rises and BUSY falls in the one step (60_exceptions.md R311). -/
theorem raiseEvent_writeErr (n : Chan) (a : Addr) (s : State) :
    raiseEvent (.writeErr n a) s =
      { s.setCh n { s.ch n with ctrl := ((s.ch n).ctrl ||| 0x80000000#32) &&& ~~~0x01000000#32 } with
        faults := s.faults ++ [.writeErr n a] } := rfl

/-! ### After the element's write -/

/-- The channel at the end of a transfer: advanced, with BUSY fallen (41_transfer_engine.md R180, R182). -/
def finished (sz : Size) (d : Channel) : Channel :=
  { advanced sz d with ctrl := Ctrl.putBusy false d.ctrl }

/-- The count reaches 0 exactly when one element was left (41_transfer_engine.md R187). -/
theorem advanced_tcRemain_eq_zero_iff {sz : Size} {d : Channel} :
    (advanced sz d).tcRemain = 0#32 ↔ d.tcRemain = 1#32 := by
  simp only [advanced]
  constructor <;> intro h <;> bv_omega

theorem finishElement_of_more {n : Chan} (sz : Size) (h : (s.ch n).tcRemain ≠ 1#32) :
    finishElement n sz s = s.setCh n (advanced sz (s.ch n)) :=
  if_neg fun e => h (advanced_tcRemain_eq_zero_iff.1 e)

/-- After the last element a channel that names no other one is idle, and that is all (41_transfer_engine.md R182). -/
theorem finishElement_of_last {n : Chan} (sz : Size) (h : (s.ch n).tcRemain = 1#32)
    (hself : ∀ m, Ctrl.chain? (s.ch n).ctrl = some m → m = n) :
    finishElement n sz s = s.setCh n (finished sz (s.ch n)) := by
  have completes : finishElement n sz s = complete n (s.setCh n (advanced sz (s.ch n))) :=
    if_pos (advanced_tcRemain_eq_zero_iff.2 h)
  rw [completes]
  rcases complete_cases n (s.setCh n (advanced sz (s.ch n))) with e | ⟨m, hne, hm, _⟩
  · exact e.trans (State.setCh_modCtrl s n _ _)
  · rw [State.setCh_ch_same] at hm
    exact absurd (hself m hm) hne

/-- After the last element the other channel that CHAIN_TO names is triggered, and this one is idle
(41_transfer_engine.md R182). -/
theorem finishElement_of_chain {n m : Chan} (sz : Size) (h : (s.ch n).tcRemain = 1#32) (hne : m ≠ n)
    (hchain : Ctrl.chain? (s.ch n).ctrl = some m) :
    finishElement n sz s = trigger m (s.setCh n (finished sz (s.ch n))) := by
  have chain : Ctrl.chain? (advanced sz (s.ch n)).ctrl = some m := hchain
  have idle : (s.setCh n (advanced sz (s.ch n))).modCtrl n (Ctrl.putBusy false) = s.setCh n (finished sz (s.ch n)) :=
    State.setCh_modCtrl s n _ _
  simp [finishElement, advanced_tcRemain_eq_zero_iff.2 h, complete, chain, hne, idle]

/-- What follows an element's write: the next element, the end, or the end and a chained trigger
(41_transfer_engine.md R180, R182). -/
theorem finishElement_cases (n : Chan) (sz : Size) (s : State) :
    ((s.ch n).tcRemain ≠ 1#32 ∧ finishElement n sz s = s.setCh n (advanced sz (s.ch n))) ∨
    ((s.ch n).tcRemain = 1#32 ∧ finishElement n sz s = s.setCh n (finished sz (s.ch n))) ∨
    (∃ m, (s.ch n).tcRemain = 1#32 ∧ m ≠ n ∧ Ctrl.chain? (s.ch n).ctrl = some m ∧
      finishElement n sz s = trigger m (s.setCh n (finished sz (s.ch n)))) := by
  by_cases last : (s.ch n).tcRemain = 1#32
  · by_cases other : ∃ m, m ≠ n ∧ Ctrl.chain? (s.ch n).ctrl = some m
    · obtain ⟨m, hne, hm⟩ := other
      exact .inr (.inr ⟨m, last, hne, hm, finishElement_of_chain sz last hne hm⟩)
    · have self : ∀ m, Ctrl.chain? (s.ch n).ctrl = some m → m = n := fun m hm =>
        not_not.1 fun hne => other ⟨m, hne, hm⟩
      exact .inr (.inl ⟨last, finishElement_of_last sz last self⟩)
  · exact .inl ⟨last, finishElement_of_more sz last⟩

/-- Settles O31: the turn is the write phase's step, and after the element's write the rest of it by the count and by
CHAIN_TO. -/
theorem writePhase : Obligations.WritePhase := by
  intro s n sz u c hturn hbusy hen hphase hsize hchain
  have keep : u.ch n = c := takeTurn_ch s n
  rw [step_of_writePhase hturn (chEnabled_iff.2 ⟨hbusy, hen, .inl hphase⟩) hphase hsize hchain]
  refine ⟨fun hfault => ?fault, fun w hal hw => ?written⟩
  case fault =>
    rw [chWritePhase_of_fault (by rwa [keep]), raiseEvent_writeErr, keep]
    rfl
  case written =>
    intro d e done
    rw [chWritePhase_of_written (w := w) (by rwa [keep]) (by rwa [keep])]
    refine ⟨fun hmore => ?_, fun hlast hself => ?_, fun hlast m hne hother => ?_⟩
    · rw [finishElement_of_more sz hmore]
      rfl
    · have self : Ctrl.chain? d.ctrl = some n := chain_eq_some_iff.2 hself
      rw [finishElement_of_last sz hlast fun m hm => Option.some.inj (hm.symm.trans self)]
      rfl
    · rw [finishElement_of_chain sz hlast hne (chain_eq_some_iff.2 hother)]
      rfl

/-! ### What an element's write leaves alone -/

@[simp] theorem State.withChannelsOf_ch (s u : State) (m : Chan) : (s.withChannelsOf u).ch m = u.ch m := by
  cases m <;> rfl

/-- What follows an element's write changes nothing but the channels and FAULTS (41_transfer_engine.md R180, R182). -/
theorem finishElement_frame (n : Chan) (sz : Size) (s : State) :
    finishElement n sz s = s.withChannelsOf (finishElement n sz s) := by
  rcases finishElement_cases n sz s with ⟨_, e⟩ | ⟨_, e⟩ | ⟨m, _, _, _, e⟩ <;> rw [e]
  · rfl
  · rfl
  · exact State.withChannelsOf_trans (t := s.setCh n _) rfl (trigger_frame m _)

/-- What follows an element's write changes no other channel but one chained to at the last element
(41_transfer_engine.md R182). -/
theorem finishElement_ch_of_ne {n m : Chan} (sz : Size) (hne : m ≠ n)
    (h : (s.ch n).tcRemain ≠ 1#32 ∨ Ctrl.chain? (s.ch n).ctrl ≠ some m) : (finishElement n sz s).ch m = s.ch m := by
  rcases finishElement_cases n sz s with ⟨_, e⟩ | ⟨_, e⟩ | ⟨k, hlast, _, hk, e⟩ <;> rw [e]
  · exact State.setCh_ch_of_ne s _ hne
  · exact State.setCh_ch_of_ne s _ hne
  · have notChained : m ≠ k := fun hmk => h.elim (absurd hlast) (absurd (hmk ▸ hk))
    rw [trigger_ch_of_ne _ notChained, State.setCh_ch_of_ne s _ hne]

/-- Settles O32: the element's write is a store, and what follows it leaves memory alone. -/
theorem elementWriteFrame : Obligations.ElementWriteFrame := by
  intro s n sz c hturn hbusy hen hphase hsize hchain hal hwin hmap
  let w := memWrite c.writeAddr sz c.hold (takeTurn s)
  have keep : w.ch n = c := (memWrite_ch _ _ _ _ n).trans (takeTurn_ch s n)
  have stored : busWrite c.writeAddr sz c.hold (takeTurn s) = some w :=
    (busWrite_memory (s := takeTurn s) sz c.hold hwin).trans (if_pos hmap)
  have steps : step s = .next (countStep (w.withChannelsOf (finishElement n sz w))) := by
    rw [step_of_writePhase hturn (chEnabled_iff.2 ⟨hbusy, hen, .inl hphase⟩) hphase hsize hchain,
      chWritePhase_of_written (w := w) (by rw [takeTurn_ch]; exact aligned_iff.1 hal) (by rwa [takeTurn_ch]),
      ← finishElement_frame]
  refine ⟨_, steps, fun i hi => memWrite_read_byte c.writeAddr c.hold (takeTurn s) hi,
    fun x hx => memWrite_read_of_ne c.writeAddr sz c.hold (takeTurn s) x hx, fun m hne hm => ?channel,
    fun hmore => ?faults, rfl⟩
  case channel =>
    have unchained : (w.ch n).tcRemain ≠ 1#32 ∨ Ctrl.chain? (w.ch n).ctrl ≠ some m := by
      rw [keep]
      exact hm.imp_right (mt chain_eq_some_iff.1)
    rw [countStep_ch, State.withChannelsOf_ch, finishElement_ch_of_ne sz hne unchained]
    exact (memWrite_ch _ _ _ _ m).trans (takeTurn_ch s m)
  case faults =>
    rw [finishElement_of_more sz (keep ▸ hmore)]
    rfl

/-! ### How a channel starts -/

/-- The channel is as a trigger starts it: its non-zero reload count remains and it is at its read phase
(41_transfer_engine.md R171 case 6). -/
structure JustStarted (c : Channel) : Prop where
  count : c.tcRemain = c.tcReload
  nonzero : c.tcRemain ≠ 0#32
  phase : c.phase = .read

/-- The channel is idle, or as a trigger starts it. -/
def IdleOrStarted (c : Channel) : Prop := Ctrl.busy c.ctrl = true → JustStarted c

theorem IdleOrStarted.of_idle {c : Channel} (h : Ctrl.busy c.ctrl = false) : IdleOrStarted c := by
  intro hb
  rw [h] at hb
  cases hb

/-- Whatever a trigger does to a channel that is idle or as started leaves it so (41_transfer_engine.md R171). -/
theorem IdleOrStarted.trigger {n : Chan} (k : Chan) (h : IdleOrStarted (s.ch n)) :
    IdleOrStarted ((trigger k s).ch n) := by
  by_cases hk : n = k
  · subst hk
    rcases trigger_cases s n with e | ⟨hb, _, _, ⟨_, e⟩ | ⟨_, _, e⟩ | ⟨_, hcount, e⟩⟩ <;> rw [e]
    · exact h
    · exact .of_idle (by simpa [raiseEvent_ch, errorEffect] using hb)
    · exact .of_idle (by simpa using hb)
    · rw [State.setCh_ch_same]
      exact fun _ => ⟨rfl, hcount, rfl⟩
  · rwa [trigger_ch_of_ne s hk]

/-- A channel replaced by one as busy as it leaves every channel as busy as it was. -/
theorem State.setCh_busy (s : State) (k : Chan) (d : Channel) (h : Ctrl.busy d.ctrl = Ctrl.busy (s.ch k).ctrl)
    (n : Chan) : Ctrl.busy ((s.setCh k d).ch n).ctrl = Ctrl.busy (s.ch n).ctrl := by
  rw [State.setCh_ch]
  split
  · next e => rw [h, e]
  · rfl

/-- No register write but that of MULTI_TRIG changes a channel's BUSY (41_transfer_engine.md R184). -/
theorem regWrite_busy {r : Reg} (hr : r ≠ .multiTrig) (v : Word) (s : State) (n : Chan) :
    Ctrl.busy ((regWrite r v s).ch n).ctrl = Ctrl.busy (s.ch n).ctrl := by
  cases r with
  | chReadAddr k => exact State.setCh_busy s k { s.ch k with readAddr := v } rfl n
  | chWriteAddr k => exact State.setCh_busy s k { s.ch k with writeAddr := v } rfl n
  | chTransCount k => exact State.setCh_busy s k { s.ch k with tcReload := v } rfl n
  | chCtrl k => exact State.setCh_busy s k { s.ch k with ctrl := Ctrl.written (s.ch k).ctrl v } (busy_written _ v) n
  | multiTrig => exact absurd rfl hr
  | _ => cases n <;> simp [regWrite, wrStatus, wrResClaim, wrGenStatus, wrSeqStatus]

/-- An idle channel that a register write makes busy is started by a write of MULTI_TRIG with its bit set
(40_channel_registers.md R158). -/
theorem regWrite_starts {r : Reg} {v : Word} {n : Chan} (hidle : Ctrl.busy (s.ch n).ctrl = false)
    (hbusy : Ctrl.busy ((regWrite r v s).ch n).ctrl = true) :
    r = .multiTrig ∧ v.getLsbD n.index = true ∧ JustStarted ((regWrite r v s).ch n) := by
  by_cases hr : r = .multiTrig
  · subst hr
    simp only [regWrite, wrMultiTrig_ch] at hbusy ⊢
    cases hv : v.getLsbD n.index with
    | false => simp [hv, hidle] at hbusy
    | true =>
      simp only [hv, if_true] at hbusy ⊢
      exact ⟨trivial, trivial, (IdleOrStarted.of_idle hidle).trigger n hbusy⟩
  · rw [regWrite_busy hr, hidle] at hbusy
    cases hbusy

theorem idleOrStarted_regWrite {n : Chan} (r : Reg) (v : Word) (hidle : Ctrl.busy (s.ch n).ctrl = false) :
    IdleOrStarted ((regWrite r v s).ch n) := fun hbusy => (regWrite_starts hidle hbusy).2.2

theorem idleOrStarted_busWrite {n : Chan} {a : Addr} {sz : Size} {v : Word} (hidle : Ctrl.busy (s.ch n).ctrl = false)
    (h : busWrite a sz v s = some t) : IdleOrStarted (t.ch n) := by
  rcases busWrite_cases s h with ⟨r, _, _, rfl⟩ | ⟨_, _, rfl⟩
  · exact idleOrStarted_regWrite r v hidle
  · rw [memWrite_ch]
    exact .of_idle hidle

theorem withHostQ_ch (q : List HostOp) (n : Chan) : ({ s with hostQ := q } : State).ch n = s.ch n := by
  cases n <;> rfl

/-- The host's turn: of its accesses only a register write changes a channel. -/
theorem idleOrStarted_hostStep {n : Chan} (hidle : Ctrl.busy (s.ch n).ctrl = false) (h : hostStep s = .next t) :
    IdleOrStarted (t.ch n) := by
  unfold hostStep at h
  split at h
  · cases h
    exact .of_idle hidle
  · next op rest _ =>
    have idle : Ctrl.busy (({ s with hostQ := rest } : State).ch n).ctrl = false := by rwa [withHostQ_ch]
    obtain ⟨q, _, ⟨r, v, rfl⟩ | ⟨x, rfl⟩ | ⟨k, hdr, rfl⟩ | ⟨a, sz, v, _, _, rfl⟩⟩ := hostOp_next h
    · rw [withHostQ_ch, acked_ch]
      exact idleOrStarted_regWrite r v idle
    · rw [withHostQ_ch, returned_ch]
      exact .of_idle idle
    · rw [withHostQ_ch, hostFault_ch]
      exact .of_idle idle
    · rw [withHostQ_ch, acked_ch, memWrite_ch]
      exact .of_idle idle

/-- The rest of another channel's write phase. -/
theorem IdleOrStarted.finishElement {n m : Chan} (sz : Size) (hne : n ≠ m) (h : IdleOrStarted (s.ch n)) :
    IdleOrStarted ((finishElement m sz s).ch n) := by
  have keep (c : Channel) : IdleOrStarted ((s.setCh m c).ch n) := by rwa [State.setCh_ch_of_ne s c hne]
  rcases finishElement_cases m sz s with ⟨_, e⟩ | ⟨_, e⟩ | ⟨k, _, _, _, e⟩ <;> rw [e]
  · exact keep _
  · exact keep _
  · exact (keep _).trigger k

/-- Of the channels' turns only a write phase makes an idle channel busy, and then it is a start
(41_transfer_engine.md R180, R182). -/
theorem chStep_starts {n m : Chan} (hidle : Ctrl.busy (s.ch n).ctrl = false) (h : chStep m s = .next t)
    (hbusy : Ctrl.busy (t.ch n).ctrl = true) : (s.ch m).phase = .write ∧ JustStarted (t.ch n) := by
  have stillIdle {u : State} (hu : u.ch n = s.ch n) : Ctrl.busy (u.ch n).ctrl ≠ true := by simp [hu, hidle]
  rcases chStep_next h with ⟨_, rfl⟩ | ⟨sz, _, hen, _, _, hphase⟩
  · exact absurd hbusy (stillIdle rfl)
  · obtain ⟨acting, _, _⟩ := chEnabled_iff.1 hen
    have other : n ≠ m := by
      rintro rfl
      rw [hidle] at acting
      cases acting
    have fault (e : FaultEvent) (he : (errorEffect e s).ch n = s.ch n) :
        Ctrl.busy ((raiseEvent e s).ch n).ctrl ≠ true := stillIdle ((raiseEvent_ch s e n).trans he)
    rcases hphase with ⟨_, rfl⟩ | ⟨hphase, rfl⟩
    · rcases chReadPhase_cases m sz s with e | ⟨x, _, _, e⟩ <;> rw [e] at hbusy
      · exact absurd hbusy (fault _ (State.setCh_ch_of_ne s _ other))
      · exact absurd hbusy (stillIdle (State.setCh_ch_of_ne s _ other))
    · refine ⟨hphase, ?_⟩
      rcases chWritePhase_cases m sz s with e | ⟨w, _, hw, e⟩ <;> rw [e] at hbusy ⊢
      · exact absurd hbusy (fault _ (State.setCh_ch_of_ne s _ other))
      · exact (idleOrStarted_busWrite hidle hw).finishElement sz other hbusy

theorem genStep_ch (g : Gen) (s : State) (n : Chan) : (genStep g s).ch n = s.ch n := by
  rcases genStep_cases g s with ⟨_, e⟩ | ⟨_, _, e⟩ | e <;> rw [e]
  · exact State.setGen_ch s g _ n
  · cases n <;> rfl

theorem loadPrograms_ch (gs : List Gen) (s : State) (n : Chan) : (loadPrograms gs s).ch n = s.ch n := by
  induction gs generalizing s with
  | nil => cases n <;> rfl
  | cons g gs ih =>
    unfold loadPrograms
    split
    · exact (ih (loadProgram g s)).trans (by cases n <;> rfl)
    · cases n <;> rfl

theorem withSeqState_ch (q : SeqState) (n : Chan) : ({ s with seqState := q } : State).ch n = s.ch n := by
  cases n <;> rfl

theorem configureA_busy (s : State) (n : Chan) :
    Ctrl.busy ((configureA s).ch n).ctrl = Ctrl.busy (s.ch n).ctrl :=
  calc Ctrl.busy ((configureA s).ch n).ctrl
    _ = _ := regWrite_busy (r := .chCtrl .ch0) nofun _ _ n
    _ = _ := regWrite_busy (r := .chTransCount .ch0) nofun _ _ n
    _ = _ := regWrite_busy (r := .chWriteAddr .ch0) nofun _ _ n
    _ = _ := regWrite_busy (r := .chReadAddr .ch0) nofun _ s n

theorem configureB_busy (s : State) (n : Chan) :
    Ctrl.busy ((configureB s).ch n).ctrl = Ctrl.busy (s.ch n).ctrl :=
  calc Ctrl.busy ((configureB s).ch n).ctrl
    _ = _ := regWrite_busy (r := .chCtrl .ch1) nofun _ _ n
    _ = _ := regWrite_busy (r := .chTransCount .ch1) nofun _ _ n
    _ = _ := regWrite_busy (r := .chWriteAddr .ch1) nofun _ _ n
    _ = _ := regWrite_busy (r := .chReadAddr .ch1) nofun _ s n

/-- No phase of the sequencer but the arm phase changes a channel's BUSY (45_startup_sequencer.md R291 to R298). -/
theorem seqStep_busy (h : s.seqState ≠ .arm) (n : Chan) :
    Ctrl.busy ((seqStep s).ch n).ctrl = Ctrl.busy (s.ch n).ctrl := by
  unfold seqStep
  cases hs : s.seqState with
  | load => simp only [seqLoad, loadPrograms_ch]
  | assign =>
    simp only [seqAssign]
    split <;> cases n <;> rfl
  | config =>
    simp only [seqConfig]
    split
    · cases n <;> rfl
    · rw [withSeqState_ch, configureB_busy, configureA_busy]
      cases n <;> rfl
  | param => cases n <;> simp [seqParam]
  | enable => cases n <;> simp [seqEnable]
  | arm => exact absurd hs h
  | idle => rfl
  | running => rfl
  | failed => rfl

/-- The sequencer starts channel 0 in its arm phase, and nothing else (45_startup_sequencer.md R298). -/
theorem seqStep_starts {n : Chan} (hidle : Ctrl.busy (s.ch n).ctrl = false)
    (hbusy : Ctrl.busy ((seqStep s).ch n).ctrl = true) :
    s.seqState = .arm ∧ n = .ch0 ∧ JustStarted ((seqStep s).ch n) := by
  by_cases harm : s.seqState = .arm
  · have triggers : (seqStep s).ch n = (trigger .ch0 s).ch n := by
      simp only [seqStep, harm, seqArm, withSeqState_ch]
    rw [triggers] at hbusy ⊢
    refine ⟨harm, not_not.1 fun hne => ?_, (IdleOrStarted.of_idle hidle).trigger .ch0 hbusy⟩
    rw [trigger_ch_of_ne s hne, hidle] at hbusy
    cases hbusy
  · rw [seqStep_busy harm, hidle] at hbusy
    cases hbusy

/-- The turns that can make an idle channel busy, and how it then stands (41_transfer_engine.md R184). -/
theorem step_starts {n : Chan} (h : step s = .next t) (hidle : Ctrl.busy (s.ch n).ctrl = false)
    (hbusy : Ctrl.busy (t.ch n).ctrl = true) :
    (nextAgent s = .host ∨ (nextAgent s = .seq ∧ s.seqState = .arm ∧ n = .ch0) ∨
      ∃ m, nextAgent s = .chan m ∧ (s.ch m).phase = .write) ∧ JustStarted (t.ch n) := by
  obtain ⟨u, hu, rfl⟩ := step_next h
  have idle : Ctrl.busy ((takeTurn s).ch n).ctrl = false := by rwa [takeTurn_ch]
  rw [countStep_ch] at hbusy ⊢
  cases ha : nextAgent s with
  | host =>
    rw [ha] at hu
    exact ⟨.inl rfl, idleOrStarted_hostStep idle hu hbusy⟩
  | chan m =>
    rw [ha] at hu
    obtain ⟨hphase, started⟩ := chStep_starts idle hu hbusy
    exact ⟨.inr (.inr ⟨m, rfl, takeTurn_ch s m ▸ hphase⟩), started⟩
  | gen g =>
    rw [ha] at hu
    cases hu
    rw [genStep_ch, idle] at hbusy
    cases hbusy
  | seq =>
    rw [ha] at hu
    cases hu
    obtain ⟨harm, hn, started⟩ := seqStep_starts idle hbusy
    exact ⟨.inr (.inl ⟨rfl, harm, hn⟩), started⟩

/-- Of the instructions only a write of MULTI_TRIG with its bit set starts a channel (40_channel_registers.md R158). -/
theorem exec_starts {i : Instr} {n : Chan} (h : exec i s = .next t) (hidle : Ctrl.busy (s.ch n).ctrl = false)
    (hbusy : Ctrl.busy (t.ch n).ctrl = true) : ∃ v, i = .wrMultiTrig v ∧ v.getLsbD n.index = true := by
  rcases exec_cases i s with ⟨r, sz, v, access, e⟩ | ⟨r, _, e⟩ <;> rw [e] at h <;> cases h
  · rw [acked_ch] at hbusy
    obtain ⟨rfl, hbit, _⟩ := regWrite_starts hidle hbusy
    refine ⟨v, ?_, hbit⟩
    rw [← Instr.instr_access i, access]
    rfl
  · rw [returned_ch, hidle] at hbusy
    cases hbusy

/-- Settles O34: by the turns, and by the instructions, that can start a channel. -/
theorem howAChannelStarts : Obligations.HowAChannelStarts := by
  refine ⟨fun s t n h hidle hbusy => ?_, fun s t i n => exec_starts⟩
  obtain ⟨how, count, nonzero, phase⟩ := step_starts h hidle hbusy
  exact ⟨how, count, nonzero, phase⟩

end Sys2Proof.Machine
end

section
/-! # The scanout chain (42_scanout_chain.md)

What leaves the chain alone; one rule for each phase of a pass of A and of B; the chain's invariant, which needs those
rules and that frame; and runs, put together from the same rules: a pass, a re-arm, any number of both, and the chain's
death. -/

namespace Sys2Proof.Machine

variable {s t u : State}

/-! ### What leaves the chain alone -/

/-- The step from `s` to `t` changes nothing the running chain rests on: the parameters, channels 0 and 1, and that the
sequencer has finished (42_scanout_chain.md R207). -/
structure LeavesChain (s t : State) : Prop where
  params : t.params = s.params
  channels : ∀ n, n ≠ .ch2 → t.ch n = s.ch n
  running : s.seqState = .running → t.seqState = .running

theorem LeavesChain.refl (s : State) : LeavesChain s s := ⟨rfl, fun _ _ => rfl, id⟩

theorem LeavesChain.trans (h : LeavesChain s t) (h' : LeavesChain t u) : LeavesChain s u where
  params := h'.params.trans h.params
  channels n hn := (h'.channels n hn).trans (h.channels n hn)
  running hs := h'.running (h.running hs)

theorem leavesChain_setHostQ (q : List HostOp) (s : State) : LeavesChain s { s with hostQ := q } :=
  ⟨rfl, fun n _ => withHostQ_ch q n, id⟩

theorem leavesChain_takeTurn (s : State) : LeavesChain s (takeTurn s) := ⟨rfl, fun n _ => takeTurn_ch s n, id⟩

theorem leavesChain_countStep (s : State) : LeavesChain s (countStep s) := ⟨rfl, fun n _ => countStep_ch s n, id⟩

theorem leavesChain_acked (s : State) : LeavesChain s (acked s) := ⟨rfl, fun n _ => acked_ch s n, id⟩

theorem leavesChain_returned (x : Word) (s : State) : LeavesChain s (returned x s) :=
  ⟨rfl, fun n _ => returned_ch s x n, id⟩

theorem leavesChain_hostFault (k : HostFaultKind) (hdr : Option (BitVec 16)) (s : State) :
    LeavesChain s (hostFault k hdr s) := ⟨rfl, fun n _ => hostFault_ch s k hdr n, id⟩

theorem leavesChain_memWrite (a : Addr) (sz : Size) (v : Word) (s : State) : LeavesChain s (memWrite a sz v s) :=
  ⟨rfl, fun n _ => memWrite_ch s a sz v n, id⟩

/-- Whatever channel 2's registers become. -/
theorem leavesChain_setCh2 (c : Channel) (s : State) : LeavesChain s (s.setCh .ch2 c) :=
  ⟨rfl, fun _ hn => State.setCh_ch_of_ne s c hn, id⟩

theorem leavesChain_raiseEvent {e : FaultEvent} (h : ∀ n, n ≠ .ch2 → (errorEffect e s).ch n = s.ch n) :
    LeavesChain s (raiseEvent e s) :=
  ⟨raiseEvent_params s e, fun n hn => (raiseEvent_ch s e n).trans (h n hn), (raiseEvent_seqState s e).trans⟩

/-- A START in RUNNING records DOUBLE_INIT and starts nothing (45_startup_sequencer.md R284). -/
theorem wrSeqCtrl_running (v : Word) (h : s.seqState = .running) : (wrSeqCtrl v s).seqState = .running := by
  simp only [wrSeqCtrl, h, reduceCtorEq, if_false]
  split
  · exact (raiseEvent_seqState s _).trans h
  · exact h

/-- A write of MULTI_TRIG with bits 0 and 1 clear triggers at most channel 2 (40_channel_registers.md R158). -/
theorem leavesChain_wrMultiTrig {v : Word} (h0 : v.getLsbD 0 = false) (h1 : v.getLsbD 1 = false) (s : State) :
    LeavesChain s (wrMultiTrig v s) where
  params := wrMultiTrig_params s v
  channels n hn := by
    have unset : v.getLsbD n.index = false := by
      cases n with
      | ch0 => exact h0
      | ch1 => exact h1
      | ch2 => exact absurd rfl hn
    simp only [wrMultiTrig_ch, unset, Bool.false_eq_true, if_false]
  running hs := (wrMultiTrig_seqState s v).trans hs

/-- A register write that names no register of channels 0 and 1 and triggers neither leaves the chain alone
(42_scanout_chain.md R207 d). -/
theorem leavesChain_regWrite {r : Reg} {v : Word} (h : writeTouchesScanout r v = false) (s : State) :
    LeavesChain s (regWrite r v s) := by
  have channel2 {n : Chan} (hn : decide (n ≠ .ch2) = false) : n = .ch2 := by simpa using hn
  cases r with
  | chReadAddr n => obtain rfl := channel2 h; exact leavesChain_setCh2 _ s
  | chWriteAddr n => obtain rfl := channel2 h; exact leavesChain_setCh2 _ s
  | chTransCount n => obtain rfl := channel2 h; exact leavesChain_setCh2 _ s
  | chCtrl n => obtain rfl := channel2 h; exact leavesChain_setCh2 _ s
  | multiTrig =>
    obtain ⟨h0, h1⟩ := Bool.or_eq_false_iff.1 h
    exact leavesChain_wrMultiTrig h0 h1 s
  | seqCtrl => exact ⟨regWrite_params s _ v, fun n _ => by cases n <;> simp [regWrite], wrSeqCtrl_running v⟩
  | _ =>
    exact ⟨regWrite_params s _ v,
      fun n _ => by cases n <;> simp [regWrite, wrStatus, wrResClaim, wrGenStatus, wrSeqStatus],
      fun hs => by simpa [regWrite, wrStatus, wrResClaim, wrGenStatus, wrSeqStatus] using hs⟩

/-! ### The other agents' turns -/

/-- A transaction that does not touch the chain: a register write that does not, a read, or a host-access fault. -/
theorem leavesChain_hostBus {x : Transaction} (hx : transactionTouchesScanout x = false) (h : hostBus x s = .next t) :
    LeavesChain s t := by
  rcases hostBus_cases x s with ⟨i, hi, e⟩ | ⟨k, _, e⟩ <;> rw [e] at h
  · rcases exec_cases i s with ⟨r, sz, v, access, e⟩ | ⟨r, _, e⟩ <;> rw [e] at h <;> cases h
    · have untouched : writeTouchesScanout r v = false := by
        simpa only [transactionTouchesScanout, hi, accessTouchesScanout, access] using hx
      exact (leavesChain_regWrite untouched s).trans (leavesChain_acked _)
    · exact leavesChain_returned _ s
  · cases h
    exact leavesChain_hostFault k _ s

/-- A round of a polling loop is its transaction, and perhaps the loop stays in the host's list (30_encoding.md R133). -/
theorem hostPoll_next {op : HostOp} {x : Transaction} {done : Word → Bool} (h : hostPoll op x done s = .next t) :
    ∃ u q, hostBus x s = .next u ∧ t = { u with hostQ := q } := by
  unfold hostPoll at h
  cases hb : hostBus x s with
  | next u =>
    simp only [hb] at h
    split at h
    · split at h <;> cases h <;> exact ⟨_, _, rfl, rfl⟩
    · cases h
      exact ⟨_, _, rfl, rfl⟩
  | fault f => simp only [hb] at h; cases h
  | refused f => simp only [hb] at h; cases h

theorem leavesChain_hostPoll {op : HostOp} {x : Transaction} {done : Word → Bool}
    (hx : transactionTouchesScanout x = false) (h : hostPoll op x done s = .next t) : LeavesChain s t := by
  obtain ⟨u, q, hu, rfl⟩ := hostPoll_next h
  exact (leavesChain_hostBus hx hu).trans (leavesChain_setHostQ q u)

/-- A host access that does not touch the chain. -/
theorem leavesChain_hostOp {op : HostOp} (hop : hostOpTouchesScanout s.params op = false) (h : hostOp op s = .next t) :
    LeavesChain s t := by
  cases op with
  | bus x => exact leavesChain_hostBus hop h
  | load a sz =>
    simp only [hostOp] at h
    rcases hostLoad_cases a sz s with ⟨x, e⟩ | ⟨k, hdr, e⟩ <;> rw [e] at h <;> cases h
    · exact leavesChain_returned x s
    · exact leavesChain_hostFault k hdr s
  | store a sz v =>
    cases hw : inWindow s.params a with
    | true =>
      simp only [hostOp, hostStore, hw, if_true] at h
      exact leavesChain_hostBus (by simpa [hostOpTouchesScanout, hw] using hop) h
    | false =>
      rw [hostOp_store_memory sz v hw] at h
      cases h
      rcases hostMemory_cases a sz (fun u => acked (memWrite a sz v u)) s with ⟨_, _, e⟩ | ⟨k, e⟩ <;> rw [e]
      · exact (leavesChain_memWrite a sz v s).trans (leavesChain_acked _)
      · exact leavesChain_hostFault k none s
  | waitIdle n =>
    simp only [hostOp] at h
    exact leavesChain_hostPoll (by decide) h
  | waitSeq =>
    simp only [hostOp] at h
    exact leavesChain_hostPoll (by decide) h

theorem leavesChain_hostStep (hop : ∀ op rest, s.hostQ = op :: rest → hostOpTouchesScanout s.params op = false)
    (h : hostStep s = .next t) : LeavesChain s t := by
  unfold hostStep at h
  split at h
  · cases h
    exact .refl s
  · next op rest hq =>
    exact (leavesChain_setHostQ rest s).trans (leavesChain_hostOp (hop op rest hq) h)

theorem leavesChain_genStep (g : Gen) (s : State) : LeavesChain s (genStep g s) where
  params := by rcases genStep_cases g s with ⟨_, e⟩ | ⟨_, _, e⟩ | e <;> rw [e] <;> rfl
  channels n _ := genStep_ch g s n
  running hs := by rcases genStep_cases g s with ⟨_, e⟩ | ⟨_, _, e⟩ | e <;> rw [e] <;> exact hs

/-- A channel replaced by one that chains as it does leaves every channel chaining as it did. -/
theorem State.setCh_chain (s : State) (k : Chan) (d : Channel) (h : Ctrl.chain? d.ctrl = Ctrl.chain? (s.ch k).ctrl)
    (n : Chan) : Ctrl.chain? ((s.setCh k d).ch n).ctrl = Ctrl.chain? (s.ch n).ctrl := by
  rw [State.setCh_ch]
  split
  · next e => rw [h, e]
  · rfl

/-- No register write changes the chain field of a busy channel (40_channel_registers.md R156). -/
theorem regWrite_chain_of_busy {n : Chan} (r : Reg) (v : Word) (h : Ctrl.busy (s.ch n).ctrl = true) :
    Ctrl.chain? ((regWrite r v s).ch n).ctrl = Ctrl.chain? (s.ch n).ctrl := by
  cases r with
  | chReadAddr k => exact State.setCh_chain s k { s.ch k with readAddr := v } rfl n
  | chWriteAddr k => exact State.setCh_chain s k { s.ch k with writeAddr := v } rfl n
  | chTransCount k => exact State.setCh_chain s k { s.ch k with tcReload := v } rfl n
  | chCtrl k =>
    simp only [regWrite, wrChCtrl, State.modCtrl_ch]
    split
    · next e =>
      subst e
      simp [written_of_busy v h]
    · rfl
  | multiTrig =>
    simp only [regWrite, wrMultiTrig_ch, trigger_of_busy s h, ite_self]
  | _ => cases n <;> simp [regWrite, wrStatus, wrResClaim, wrGenStatus, wrSeqStatus]

theorem busWrite_chain_of_busy {n : Chan} {a : Addr} {sz : Size} {v : Word} (hb : Ctrl.busy (s.ch n).ctrl = true)
    (h : busWrite a sz v s = some t) : Ctrl.chain? (t.ch n).ctrl = Ctrl.chain? (s.ch n).ctrl := by
  rcases busWrite_cases s h with ⟨r, _, _, rfl⟩ | ⟨_, _, rfl⟩
  · exact regWrite_chain_of_busy r v hb
  · rw [memWrite_ch]

/-- The rest of channel 2's write phase, where its CHAIN_TO names itself (41_transfer_engine.md R182). -/
theorem leavesChain_finishElement (sz : Size) (h : Ctrl.chain? s.ch2.ctrl = some .ch2) :
    LeavesChain s (finishElement .ch2 sz s) := by
  have self (n : Chan) (hn : n ≠ .ch2) : Ctrl.chain? s.ch2.ctrl ≠ some n := by
    rw [h]
    exact fun e => hn (Option.some.inj e).symm
  exact ⟨by rw [finishElement_frame]; rfl, fun n hn => finishElement_ch_of_ne sz hn (.inr (self n hn)),
    fun hs => by rw [finishElement_frame]; exact hs⟩

/-- Channel 2's element write, where the register it may write does not touch the chain. -/
theorem leavesChain_busWrite {a : Addr} {sz : Size} {v : Word}
    (hreg : inWindow s.params a = true → ∀ r, Reg.ofOffset? (windowOffset s.params a) = some r →
      writeTouchesScanout r v = false)
    (h : busWrite a sz v s = some t) : LeavesChain s t := by
  rcases busWrite_cases s h with ⟨r, hw, hr, rfl⟩ | ⟨_, _, rfl⟩
  · exact leavesChain_regWrite (hreg hw r (ofOffset_eq_some_iff.2 (legalReg_eq_some_iff.1 hr).1)) s
  · exact leavesChain_memWrite a sz v s

/-- What `channel2TouchesScanout` rules out: a chain to another channel, and a register write that touches the chain. -/
theorem channel2_untouched (h : channel2TouchesScanout s = false) :
    Ctrl.chain? s.ch2.ctrl = some .ch2 ∧
    (inWindow s.params s.ch2.writeAddr = true →
      ∀ r, Reg.ofOffset? (windowOffset s.params s.ch2.writeAddr) = some r →
        writeTouchesScanout r s.ch2.hold = false) := by
  obtain ⟨chain, write⟩ := Bool.or_eq_false_iff.1 h
  refine ⟨by simpa using chain, fun hw r hr => ?_⟩
  simpa [hw, hr] using write

/-- Channel 2's turn, where its write phase does not touch the chain. -/
theorem leavesChain_chStep (hch : s.ch2.phase = .write → channel2TouchesScanout s = false)
    (h : chStep .ch2 s = .next t) : LeavesChain s t := by
  rcases chStep_next h with ⟨_, rfl⟩ | ⟨sz, _, hen, _, _, ⟨_, rfl⟩ | ⟨hphase, rfl⟩⟩
  · exact .refl _
  · rcases chReadPhase_cases .ch2 sz s with e | ⟨x, _, _, e⟩ <;> rw [e]
    · exact leavesChain_raiseEvent fun _ hn => State.setCh_ch_of_ne s _ hn
    · exact leavesChain_setCh2 _ s
  · rcases chWritePhase_cases .ch2 sz s with e | ⟨w, _, hw, e⟩ <;> rw [e]
    · exact leavesChain_raiseEvent fun _ hn => State.setCh_ch_of_ne s _ hn
    · obtain ⟨chain, write⟩ := channel2_untouched (hch hphase)
      obtain ⟨busy, _, _⟩ := chEnabled_iff.1 hen
      exact (leavesChain_busWrite write hw).trans
        (leavesChain_finishElement sz ((busWrite_chain_of_busy busy hw).trans chain))

/-! ### The fields of the descriptors' CTRL -/

/-- A CTRL is what it is without BUSY, with its BUSY put back. -/
theorem eq_putBusy {b : Bool} {c d : Word} (h : Ctrl.putBusy false c = d) (hb : Ctrl.busy c = b) :
    c = Ctrl.putBusy b d := by
  rw [← h, putBusy_putBusy, ← hb]
  exact (putBit_self 24 c).symm

theorem putBusy_false_ctrlA : Ctrl.putBusy false ctrlA = ctrlA := by decide

theorem putBusy_false_ctrlB : Ctrl.putBusy false ctrlB = ctrlB := by decide

theorem busy_ctrlA : Ctrl.busy ctrlA = false := by decide

theorem busy_ctrlB : Ctrl.busy ctrlB = false := by decide

/-- What makes a trigger of a channel start it (41_transfer_engine.md R171 case 6). -/
structure Startable (c : Channel) : Prop where
  idle : Ctrl.busy c.ctrl = false
  noError : Ctrl.err c.ctrl = false
  enabled : Ctrl.en c.ctrl = true
  legal : Ctrl.configLegal c.ctrl = true
  count : c.tcReload ≠ 0#32

theorem trigger_of_startable {n : Chan} (h : Startable (s.ch n)) : trigger n s =
    s.setCh n { s.ch n with
      tcRemain := (s.ch n).tcReload, phase := .read, ctrl := Ctrl.putBusy true (s.ch n).ctrl } :=
  trigger_of_start s h.idle h.noError h.enabled h.legal h.count

theorem startable_of_ctrlA {c : Channel} (h : c.ctrl = ctrlA) (hcount : c.tcReload ≠ 0#32) : Startable c := by
  refine ⟨?_, ?_, ?_, ?_, hcount⟩ <;> rw [h] <;> decide

theorem startable_of_ctrlB {c : Channel} (h : c.ctrl = ctrlB) (hcount : c.tcReload = 1#32) : Startable c := by
  refine ⟨?_, ?_, ?_, ?_, by rw [hcount]; decide⟩ <;> rw [h] <;> decide

/-! ### The accesses of A and B -/

/-- A's destination is PIX_TXF (42_scanout_chain.md R200). -/
theorem busWrite_pixTxfAddr (sz : Size) (v : Word) (s : State) :
    busWrite (pixTxfAddr s.params) sz v s = some (wrPixTxf v s) := by
  obtain ⟨hw, hoff⟩ := inWindow_base s.params 0x210 (by decide)
  rw [pixTxfAddr, busWrite_window sz v hw, hoff, legalReg_pixTxf]
  rfl

/-- B's destination is CH0.READ_ADDR (42_scanout_chain.md R202). -/
theorem busWrite_ch0ReadAddrAddr (v : Word) (s : State) :
    busWrite (ch0ReadAddrAddr s.params) .word v s = some (wrChReadAddr .ch0 v s) := by
  obtain ⟨hw, hoff⟩ := inWindow_base s.params 0x000 (by decide)
  have legal : legalReg? 0x000#12 .word true = some (.chReadAddr .ch0) := by decide
  rw [ch0ReadAddrAddr, busWrite_window .word v hw, hoff, legal]
  rfl

theorem Params.sdbBase_aligned {p : Params} (h : p.legal = true) : p.sdbBase.toNat % 0x1000 = 0 := by
  simp only [Params.legal, Params.inBounds, Bool.and_eq_true, decide_eq_true_eq] at h
  tauto

theorem Params.one_le_pixDepth {p : Params} (h : p.legal = true) : 1 ≤ p.pixDepth := by
  simp only [Params.legal, Params.inBounds, Bool.and_eq_true, decide_eq_true_eq] at h
  tauto

/-- The window begins at a multiple of 4 KiB, so B's word write is aligned (00_scope.md R9). -/
theorem ch0ReadAddrAddr_aligned {p : Params} (h : p.legal = true) :
    (ch0ReadAddrAddr p).toNat % Size.word.bytes = 0 := by
  have base := Params.sdbBase_aligned h
  simp only [ch0ReadAddrAddr, BitVec.add_zero, Size.bytes]
  omega

/-- The decoded read of a word of memory (20_memory.md R92, R96). -/
theorem busRead_word {a : Addr} (h : passMapped s.params a 4) : busRead a .word s = some (memRead a .word s) := by
  have memory (i : Nat) (hi : i < 4) :
      inWindow s.params (addrAt a i) = false ∧ memMapped s.params (addrAt a i) = true := by
    simpa [isMemory] using h i hi
  have outside : inWindow s.params a = false := addrAt_zero a ▸ (memory 0 (by decide)).1
  have mapped : allMapped s.params a .word = true := allMapped_iff.2 fun i hi => (memory i hi).2
  rw [busRead_memory .word outside, if_pos mapped]

/-- After its first byte a pass goes on over memory. -/
theorem passMapped_tail {p : Params} {a : Addr} {n : Nat} (h : passMapped p a (n + 1)) :
    passMapped p (addrAt a 1) n := by
  intro k hk
  rw [addrAt_addrAt, Nat.add_comm]
  exact h (k + 1) (by omega)

/-! ### One rule for each phase of A and B

The state after each of the chain's steps, written out. -/

/-- A has a step at its write phase, or when the pixel queue has room (42_scanout_chain.md R201). -/
theorem chEnabled_of_ctrlA (hctrl : s.ch0.ctrl = Ctrl.putBusy true ctrlA)
    (h : s.ch0.phase = .write ∨ s.pixQ.length < s.params.pixDepth) : chEnabled .ch0 s = true := by
  rw [chEnabled_iff, State.ch_ch0, hctrl]
  exact ⟨by decide, by decide, h.imp_right fun room => .inr ⟨by decide, room⟩⟩

theorem chEnabled_of_ctrlB (hctrl : s.ch1.ctrl = Ctrl.putBusy true ctrlB) : chEnabled .ch1 s = true := by
  rw [chEnabled_iff, State.ch_ch1, hctrl]
  exact ⟨by decide, by decide, .inr (.inl (by decide))⟩

/-- A reads a byte of the framebuffer (42_scanout_chain.md R204). -/
theorem step_of_readA (hturn : nextAgent s = .chan .ch0) (hctrl : s.ch0.ctrl = Ctrl.putBusy true ctrlA)
    (hphase : s.ch0.phase = .read) (hroom : s.pixQ.length < s.params.pixDepth)
    (hmem : isMemory s.params s.ch0.readAddr = true) :
    step s = .next { s with
      ch0 := { s.ch0 with hold := 0#24 ++ readByte s s.ch0.readAddr, phase := .write }
      sched := s.sched.tail, stepNo := s.stepNo + 1 } := by
  have value : busRead ((takeTurn s).ch .ch0).readAddr .byte (takeTurn s) =
      some (0#24 ++ readByte s s.ch0.readAddr) := by
    rw [busRead_takeTurn, takeTurn_ch]
    exact busRead_byte hmem
  rw [step_of_readPhase (sz := .byte) hturn (chEnabled_of_ctrlA hctrl (.inr hroom)) hphase
    (by rw [State.ch_ch0, hctrl]; decide) (by rw [State.ch_ch0, hctrl]; decide),
    chReadPhase_of_value (Nat.mod_one _) value]
  rfl

/-- The push to the pixel queue does not depend on whose turn it is. -/
theorem wrPixTxf_takeTurn (v : Word) (s : State) : wrPixTxf v (takeTurn s) = takeTurn (wrPixTxf v s) := by
  unfold wrPixTxf
  rw [takeTurn_pixQ, takeTurn_params]
  split <;> rfl

/-- A's turn at its write phase pushes the element and advances (42_scanout_chain.md R204). -/
theorem step_of_writeA (hturn : nextAgent s = .chan .ch0) (hctrl : s.ch0.ctrl = Ctrl.putBusy true ctrlA)
    (hphase : s.ch0.phase = .write) (hdest : s.ch0.writeAddr = pixTxfAddr s.params) :
    step s = .next (countStep (finishElement .ch0 .byte (takeTurn (wrPixTxf s.ch0.hold s)))) := by
  have written : busWrite ((takeTurn s).ch .ch0).writeAddr .byte ((takeTurn s).ch .ch0).hold (takeTurn s) =
      some (takeTurn (wrPixTxf s.ch0.hold s)) := by
    rw [← wrPixTxf_takeTurn, takeTurn_ch, State.ch_ch0, hdest]
    exact busWrite_pixTxfAddr .byte s.ch0.hold (takeTurn s)
  rw [step_of_writePhase (sz := .byte) hturn (chEnabled_of_ctrlA hctrl (.inl hphase)) hphase
    (by rw [State.ch_ch0, hctrl]; decide) (by rw [State.ch_ch0, hctrl]; decide),
    chWritePhase_of_written (Nat.mod_one _) written]

/-- A's channel after an element: A reads ahead and writes in place (42_scanout_chain.md R201). -/
theorem advanced_of_ctrlA {c : Channel} (h : c.ctrl = Ctrl.putBusy true ctrlA) : advanced .byte c =
    { c with readAddr := addrAt c.readAddr 1, tcRemain := c.tcRemain - 1#32, phase := .read } := by
  have incrRead : Ctrl.incrRead c.ctrl = true := by rw [h]; decide
  have incrWrite : Ctrl.incrWrite c.ctrl = false := by rw [h]; decide
  simp [advanced, incrRead, incrWrite, Size.bytes]

theorem advanced_of_ctrlB {c : Channel} (h : c.ctrl = Ctrl.putBusy true ctrlB) : advanced .word c =
    { c with tcRemain := c.tcRemain - 1#32, phase := .read } := by
  have incrRead : Ctrl.incrRead c.ctrl = false := by rw [h]; decide
  have incrWrite : Ctrl.incrWrite c.ctrl = false := by rw [h]; decide
  simp [advanced, incrRead, incrWrite]

/-- A writes an element before its last (42_scanout_chain.md R204). -/
theorem step_of_writeA_more (hturn : nextAgent s = .chan .ch0) (hctrl : s.ch0.ctrl = Ctrl.putBusy true ctrlA)
    (hphase : s.ch0.phase = .write) (hdest : s.ch0.writeAddr = pixTxfAddr s.params) (hmore : s.ch0.tcRemain ≠ 1#32) :
    step s = .next { wrPixTxf s.ch0.hold s with
      ch0 := { s.ch0 with readAddr := addrAt s.ch0.readAddr 1, tcRemain := s.ch0.tcRemain - 1#32, phase := .read }
      ch1 := s.ch1
      sched := s.sched.tail, stepNo := s.stepNo + 1 } := by
  have keep : (takeTurn (wrPixTxf s.ch0.hold s)).ch .ch0 = s.ch0 := by simp
  rw [step_of_writeA hturn hctrl hphase hdest, finishElement_of_more .byte (by rwa [keep]), keep,
    advanced_of_ctrlA hctrl]
  simp [countStep, takeTurn, State.setCh]

/-- A writes its last element and starts B in the same step (42_scanout_chain.md R205). -/
theorem step_of_writeA_last (hturn : nextAgent s = .chan .ch0) (hctrl : s.ch0.ctrl = Ctrl.putBusy true ctrlA)
    (hphase : s.ch0.phase = .write) (hdest : s.ch0.writeAddr = pixTxfAddr s.params) (hlast : s.ch0.tcRemain = 1#32)
    (hctrlB : s.ch1.ctrl = ctrlB) (hcountB : s.ch1.tcReload = 1#32) :
    step s = .next { wrPixTxf s.ch0.hold s with
      ch0 := { s.ch0 with
        readAddr := addrAt s.ch0.readAddr 1, tcRemain := 0#32, phase := .read, ctrl := ctrlA }
      ch1 := { s.ch1 with tcRemain := 1#32, phase := .read, ctrl := Ctrl.putBusy true ctrlB }
      sched := s.sched.tail, stepNo := s.stepNo + 1 } := by
  have keep : (takeTurn (wrPixTxf s.ch0.hold s)).ch .ch0 = s.ch0 := by simp
  have chain : Ctrl.chain? s.ch0.ctrl = some .ch1 := by rw [hctrl]; decide
  have endsA : finished .byte s.ch0 = { s.ch0 with
      readAddr := addrAt s.ch0.readAddr 1, tcRemain := 0#32, phase := .read, ctrl := ctrlA } := by
    rw [finished, advanced_of_ctrlA hctrl, hlast, hctrl]
    rfl
  rw [step_of_writeA hturn hctrl hphase hdest,
    finishElement_of_chain .byte (m := .ch1) (by rwa [keep]) (by decide) (by rwa [keep]), keep, endsA,
    trigger_of_startable]
  · simp [countStep, takeTurn, State.setCh, hctrlB, hcountB]
  · exact startable_of_ctrlB (by simpa [State.setCh] using hctrlB) (by simpa [State.setCh] using hcountB)

/-- B reads the pointer cell (42_scanout_chain.md R206). -/
theorem step_of_readB (hturn : nextAgent s = .chan .ch1) (hctrl : s.ch1.ctrl = Ctrl.putBusy true ctrlB)
    (hphase : s.ch1.phase = .read) (hal : aligned s.ch1.readAddr .word = true)
    (hcell : passMapped s.params s.ch1.readAddr 4) :
    step s = .next { s with
      ch1 := { s.ch1 with hold := memRead s.ch1.readAddr .word s, phase := .write }
      sched := s.sched.tail, stepNo := s.stepNo + 1 } := by
  have value : busRead ((takeTurn s).ch .ch1).readAddr .word (takeTurn s) = some (memRead s.ch1.readAddr .word s) := by
    rw [busRead_takeTurn, takeTurn_ch]
    exact busRead_word hcell
  rw [step_of_readPhase (sz := .word) hturn (chEnabled_of_ctrlB hctrl) hphase
    (by rw [State.ch_ch1, hctrl]; decide) (by rw [State.ch_ch1, hctrl]; decide),
    chReadPhase_of_value (by rw [takeTurn_ch]; exact aligned_iff.1 hal) value]
  rfl

/-- B writes the value it read to A's READ_ADDR and starts A in the same step (42_scanout_chain.md R206, R212). -/
theorem step_of_writeB (hturn : nextAgent s = .chan .ch1) (hctrl : s.ch1.ctrl = Ctrl.putBusy true ctrlB)
    (hphase : s.ch1.phase = .write) (hdest : s.ch1.writeAddr = ch0ReadAddrAddr s.params) (hlegal : s.params.legal = true)
    (hlast : s.ch1.tcRemain = 1#32) (hA : Startable s.ch0) :
    step s = .next { s with
      ch0 := { s.ch0 with
        readAddr := s.ch1.hold, tcRemain := s.ch0.tcReload, phase := .read, ctrl := Ctrl.putBusy true s.ch0.ctrl }
      ch1 := { s.ch1 with tcRemain := 0#32, phase := .read, ctrl := ctrlB }
      sched := s.sched.tail, stepNo := s.stepNo + 1 } := by
  have written : busWrite ((takeTurn s).ch .ch1).writeAddr .word ((takeTurn s).ch .ch1).hold (takeTurn s) =
      some (wrChReadAddr .ch0 s.ch1.hold (takeTurn s)) := by
    rw [takeTurn_ch, State.ch_ch1, hdest]
    exact busWrite_ch0ReadAddrAddr s.ch1.hold (takeTurn s)
  have keep : (wrChReadAddr .ch0 s.ch1.hold (takeTurn s)).ch .ch1 = s.ch1 := rfl
  have chain : Ctrl.chain? s.ch1.ctrl = some .ch0 := by rw [hctrl]; decide
  have endsB : finished .word s.ch1 = { s.ch1 with tcRemain := 0#32, phase := .read, ctrl := ctrlB } := by
    rw [finished, advanced_of_ctrlB hctrl, hlast, hctrl]
    rfl
  rw [step_of_writePhase (sz := .word) hturn (chEnabled_of_ctrlB hctrl) hphase
    (by rw [State.ch_ch1, hctrl]; decide) (by rw [State.ch_ch1, hctrl]; decide),
    chWritePhase_of_written (by rw [takeTurn_ch, State.ch_ch1, hdest]; exact ch0ReadAddrAddr_aligned hlegal) written,
    finishElement_of_chain .word (m := .ch0) (by rwa [keep]) (by decide) (by rwa [keep]), keep, endsB,
    trigger_of_startable]
  · rfl
  · exact { hA with }

/-! ### The chain's invariant -/

theorem ScanoutWired.congr (h : ScanoutWired s) (hp : t.params = s.params) (h0 : t.ch0 = s.ch0)
    (h1 : t.ch1 = s.ch1) : ScanoutWired t := by
  have same : ScanoutWired { t with params := s.params, ch0 := s.ch0, ch1 := s.ch1 } := { h with }
  rw [← hp, ← h0, ← h1] at same
  exact same

theorem ChainRunning.idleB (h : ChainRunning s) (hA : Ctrl.busy s.ch0.ctrl = true) : Ctrl.busy s.ch1.ctrl = false :=
  Bool.eq_false_iff.2 fun hB => h.oneBusy (hA.trans hB.symm)

theorem ChainRunning.idleA (h : ChainRunning s) (hB : Ctrl.busy s.ch1.ctrl = true) : Ctrl.busy s.ch0.ctrl = false :=
  Bool.eq_false_iff.2 fun hA => h.oneBusy (hA.trans hB.symm)

/-- A step that leaves the chain alone keeps it running. -/
theorem ChainRunning.of_leavesChain (h : ChainRunning s) (e : LeavesChain s t) : ChainRunning t := by
  have hp := e.params
  have h0 : t.ch0 = s.ch0 := e.channels .ch0 (by decide)
  have h1 : t.ch1 = s.ch1 := e.channels .ch1 (by decide)
  have same : ChainRunning { t with params := s.params, ch0 := s.ch0, ch1 := s.ch1 } :=
    { h with running := e.running h.running, wired := h.wired.congr rfl rfl rfl }
  rw [← hp, ← h0, ← h1] at same
  exact same

/-- A push to the pixel queue is nothing to the invariant. -/
theorem ChainRunning.pushed {c d : Channel} {v : Word} {turns : List Agent} {k : Nat}
    (h : ChainRunning { s with ch0 := c, ch1 := d }) :
    ChainRunning { wrPixTxf v s with ch0 := c, ch1 := d, sched := turns, stepNo := k } :=
  h.of_leavesChain
    { params := wrPixTxf_params s v
      channels := fun n hn => by
        cases n with
        | ch0 => rfl
        | ch1 => rfl
        | ch2 => exact absurd rfl hn
      running := (wrPixTxf_seqState s v).trans }

/-- A chain whose sequencer has finished and that is wired runs while A is in a pass of memory. -/
theorem chainRunning_of_busyA (hrun : s.seqState = .running) (hwired : ScanoutWired s)
    (hA : Ctrl.busy s.ch0.ctrl = true) (hB : Ctrl.busy s.ch1.ctrl = false) (hcount : s.ch0.tcRemain ≠ 0#32)
    (hmap : passMapped s.params s.ch0.readAddr s.ch0.tcRemain.toNat) : ChainRunning s where
  running := hrun
  wired := hwired
  oneBusy := by rw [hA, hB]; decide
  passOfA _ := ⟨hcount, hmap⟩
  passOfB h := by rw [hB] at h; cases h

/-- It runs as well while B is in its pass, if what B is about to write starts a pass of memory. -/
theorem chainRunning_of_busyB (hrun : s.seqState = .running) (hwired : ScanoutWired s)
    (hA : Ctrl.busy s.ch0.ctrl = false) (hB : Ctrl.busy s.ch1.ctrl = true) (hcount : s.ch1.tcRemain = 1#32)
    (hmap : s.ch1.phase = .write → passMapped s.params s.ch1.hold s.ch0.tcReload.toNat) : ChainRunning s where
  running := hrun
  wired := hwired
  oneBusy := by rw [hA, hB]; decide
  passOfA h := by rw [hA] at h; cases h
  passOfB _ := ⟨hcount, hmap⟩

/-- A's step in its pass: a read, an element, or the last element, which hands over to B (42_scanout_chain.md R204,
R205). -/
theorem ChainRunning.stepA (h : ChainRunning s) (hturn : nextAgent s = .chan .ch0) (hen : chEnabled .ch0 s = true)
    (hs : step s = .next t) : ChainRunning t := by
  obtain ⟨busyA, _, ready⟩ := chEnabled_iff.1 hen
  have idleB := h.idleB busyA
  have hctrl := eq_putBusy h.wired.ctrlOfA busyA
  have hctrlB : s.ch1.ctrl = ctrlB := (eq_putBusy h.wired.ctrlOfB idleB).trans putBusy_false_ctrlB
  obtain ⟨count, mapped⟩ := h.passOfA busyA
  obtain ⟨n, hn⟩ : ∃ n, s.ch0.tcRemain.toNat = n + 1 := Nat.exists_eq_succ_of_ne_zero (by bv_omega)
  cases hphase : s.ch0.phase with
  | read =>
    have room : s.pixQ.length < s.params.pixDepth := by
      rcases ready with hw | permanent | ⟨_, room⟩
      · rw [State.ch_ch0, hphase] at hw; cases hw
      · rw [State.ch_ch0, hctrl] at permanent; exact absurd permanent (by decide)
      · exact room
    have first : isMemory s.params s.ch0.readAddr = true := addrAt_zero s.ch0.readAddr ▸ mapped 0 (by omega)
    rw [step_of_readA hturn hctrl hphase room first] at hs
    cases hs
    exact chainRunning_of_busyA h.running { h.wired with } busyA idleB count mapped
  | write =>
    by_cases last : s.ch0.tcRemain = 1#32
    · rw [step_of_writeA_last hturn hctrl hphase h.wired.destOfA last hctrlB h.wired.countOfB] at hs
      cases hs
      exact (chainRunning_of_busyB (s := { s with
          ch0 := { s.ch0 with readAddr := addrAt s.ch0.readAddr 1, tcRemain := 0#32, phase := .read, ctrl := ctrlA }
          ch1 := { s.ch1 with tcRemain := 1#32, phase := .read, ctrl := Ctrl.putBusy true ctrlB } }) h.running
        { h.wired with ctrlOfA := putBusy_false_ctrlA, ctrlOfB := putBusy_putBusy false true ctrlB }
        busy_ctrlA (busy_putBusy true ctrlB) rfl nofun).pushed
    · rw [step_of_writeA_more hturn hctrl hphase h.wired.destOfA last] at hs
      cases hs
      have more : s.ch0.tcRemain - 1#32 ≠ 0#32 := by bv_omega
      have fewer : (s.ch0.tcRemain - 1#32).toNat = n := by bv_omega
      have rest : passMapped s.params (addrAt s.ch0.readAddr 1) (s.ch0.tcRemain - 1#32).toNat := by
        rw [fewer]
        exact passMapped_tail (hn ▸ mapped)
      exact (chainRunning_of_busyA (s := { s with ch0 := { s.ch0 with
          readAddr := addrAt s.ch0.readAddr 1, tcRemain := s.ch0.tcRemain - 1#32, phase := .read } }) h.running
        { h.wired with } busyA idleB more rest).pushed

/-- B's step in its pass: the read of the pointer cell, or the write that hands over to A (42_scanout_chain.md R206). -/
theorem ChainRunning.stepB (h : ChainRunning s) (hlegal : s.params.legal = true) (hturn : nextAgent s = .chan .ch1)
    (hcell : s.ch1.phase = .read → passMapped s.params (memRead s.ch1.readAddr .word s) s.ch0.tcReload.toNat)
    (hen : chEnabled .ch1 s = true) (hs : step s = .next t) : ChainRunning t := by
  obtain ⟨busyB, _, _⟩ := chEnabled_iff.1 hen
  have idleA := h.idleA busyB
  have hctrl := eq_putBusy h.wired.ctrlOfB busyB
  have hctrlA : s.ch0.ctrl = ctrlA := (eq_putBusy h.wired.ctrlOfA idleA).trans putBusy_false_ctrlA
  obtain ⟨count, mapped⟩ := h.passOfB busyB
  cases hphase : s.ch1.phase with
  | read =>
    rw [step_of_readB hturn hctrl hphase h.wired.sourceOfB h.wired.cellMapped] at hs
    cases hs
    exact chainRunning_of_busyB h.running { h.wired with } idleA busyB count fun _ => hcell hphase
  | write =>
    rw [step_of_writeB hturn hctrl hphase h.wired.destOfB hlegal count
      (startable_of_ctrlA hctrlA h.wired.countOfA)] at hs
    cases hs
    exact chainRunning_of_busyA h.running
      { h.wired with ctrlOfA := (putBusy_putBusy false true _).trans h.wired.ctrlOfA, ctrlOfB := putBusy_false_ctrlB }
      (busy_putBusy true _) busy_ctrlB h.wired.countOfA (mapped hphase)

/-- Of A and B exactly one is busy, so the chain streams or reconfigures (42_scanout_chain.md R203). -/
theorem ChainRunning.chainState (h : ChainRunning s) :
    Machine.chainState s = .streaming ∨ Machine.chainState s = .reconfiguring := by
  cases hA : Ctrl.busy s.ch0.ctrl with
  | true => exact .inl (by rw [Machine.chainState, hA, h.idleB hA])
  | false =>
    have busyB : Ctrl.busy s.ch1.ctrl = true := Bool.ne_false_iff.1 fun hB => h.oneBusy (hA.trans hB.symm)
    exact .inr (by rw [Machine.chainState, hA, busyB])

/-- An agent whose turn leaves the chain alone takes a step that does. -/
theorem leavesChain_step (hs : step s = .next t)
    (h : ∀ u, agentStep (nextAgent s) (takeTurn s) = .next u → LeavesChain (takeTurn s) u) : LeavesChain s t := by
  obtain ⟨u, hu, rfl⟩ := step_next hs
  exact ((leavesChain_takeTurn s).trans (h u hu)).trans (leavesChain_countStep u)

/-- A channel without an enabled step lets its turn pass. -/
theorem leavesChain_of_idle {n : Chan} (hturn : nextAgent s = .chan n) (hen : chEnabled n s = false)
    (hs : step s = .next t) : LeavesChain s t :=
  leavesChain_step hs fun u hu => by
    rw [hturn, agentStep_of_idle (a := .chan n) (s := takeTurn s) hen] at hu
    cases hu
    exact .refl _

/-- Every undisturbed step keeps the chain running. -/
theorem ChainRunning.step (h : ChainRunning s) (hlegal : s.params.legal = true) (hu : Undisturbed s)
    (hs : step s = .next t) : ChainRunning t := by
  cases hturn : nextAgent s with
  | host =>
    refine h.of_leavesChain (leavesChain_step hs fun u hstep => ?_)
    rw [hturn] at hstep
    exact leavesChain_hostStep (hu.host hturn) hstep
  | chan n =>
    cases hen : chEnabled n s with
    | false => exact h.of_leavesChain (leavesChain_of_idle hturn hen hs)
    | true =>
      cases n with
      | ch0 => exact h.stepA hturn hen hs
      | ch1 => exact h.stepB hlegal hturn (hu.cell hturn) hen hs
      | ch2 =>
        refine h.of_leavesChain (leavesChain_step hs fun u hstep => ?_)
        rw [hturn] at hstep
        exact leavesChain_chStep (hu.channel2 hturn) hstep
  | gen g =>
    refine h.of_leavesChain (leavesChain_step hs fun u hstep => ?_)
    rw [hturn] at hstep
    cases hstep
    exact leavesChain_genStep g _
  | seq =>
    refine h.of_leavesChain (leavesChain_step hs fun u hstep => ?_)
    rw [hturn, agentStep_of_idle (by simp [agentEnabled, seqEnabled, h.running])] at hstep
    cases hstep
    exact .refl _

/-- Settles O57: every turn but A's and B's leaves the chain alone, and theirs keep it running by the rules of their
phases. -/
theorem chainAlternates : Obligations.ChainAlternates := by
  intro s t hlegal h hu hs
  have running := h.step hlegal hu hs
  exact ⟨running, running.chainState⟩


/-! ### A re-arm -/

theorem nextAgent_of_sched {a : Agent} {turns : List Agent} (hs : s.sched = a :: turns) : nextAgent s = a := by
  rw [nextAgent, hs]

/-- B is at the start of its pass over a mapped pointer cell, and A can be started (42_scanout_chain.md R206). -/
structure ReadyToRearm (s : State) : Prop where
  ctrlB : s.ch1.ctrl = Ctrl.putBusy true ctrlB
  phase : s.ch1.phase = .read
  count : s.ch1.tcRemain = 1#32
  source : aligned s.ch1.readAddr .word = true
  cell : passMapped s.params s.ch1.readAddr 4
  dest : s.ch1.writeAddr = ch0ReadAddrAddr s.params
  legal : s.params.legal = true
  startA : Startable s.ch0

/-- The state after B's pass: A starts at the pointer cell's value (42_scanout_chain.md R206, R212). -/
def rearmed (rest : List Agent) (s : State) : State :=
  { s with
    ch0 := { s.ch0 with
      readAddr := memRead s.ch1.readAddr .word s, tcRemain := s.ch0.tcReload, phase := .read
      ctrl := Ctrl.putBusy true s.ch0.ctrl }
    ch1 := { s.ch1 with
      tcRemain := 0#32, phase := .read, hold := memRead s.ch1.readAddr .word s, ctrl := ctrlB }
    stepNo := s.stepNo + 2, sched := rest }

theorem run_rearm {rest : List Agent} (h : ReadyToRearm s) (hs : s.sched = .chan .ch1 :: .chan .ch1 :: rest) :
    core.run 2 s = .next (rearmed rest s) := by
  have reads := step_of_readB (nextAgent_of_sched hs) h.ctrlB h.phase h.source h.cell
  rw [hs] at reads
  calc core.run 2 s
    _ = core.run 1 _ := run_succ reads
    _ = core.run 0 _ := run_succ (step_of_writeB rfl h.ctrlB rfl h.dest h.legal h.count h.startA)
    _ = .next (rearmed rest s) := rfl

/-- A wired chain with B about to read the pointer cell is ready to re-arm. -/
theorem ScanoutWired.readyToRearm (h : ScanoutWired s) (hlegal : s.params.legal = true)
    (hA : Ctrl.busy s.ch0.ctrl = false) (hB : Ctrl.busy s.ch1.ctrl = true) (hphase : s.ch1.phase = .read)
    (hcount : s.ch1.tcRemain = 1#32) : ReadyToRearm s where
  ctrlB := eq_putBusy h.ctrlOfB hB
  phase := hphase
  count := hcount
  source := h.sourceOfB
  cell := h.cellMapped
  dest := h.destOfB
  legal := hlegal
  startA := startable_of_ctrlA ((eq_putBusy h.ctrlOfA hA).trans putBusy_false_ctrlA) h.countOfA

/-- Settles O55: B's two steps, by their rules. -/
theorem rearm : Obligations.Rearm := by
  intro s hwired hlegal hA hB hphase hcount hs q
  have hctrl : s.ch0.ctrl = ctrlA := (eq_putBusy hwired.ctrlOfA hA).trans putBusy_false_ctrlA
  rw [run_rearm (hwired.readyToRearm hlegal hA hB hphase hcount) hs, rearmed, hctrl]

/-! ### A pass -/

/-- The pixel generator takes the one byte queued (44_timing_generators.md R252). -/
theorem step_of_pop {b : Byte} (hturn : nextAgent s = .gen .p) (hen : s.genEnable.getLsbD 2 = true)
    (hloaded : s.genP.loaded = true) (hlatched : s.genP.latched = true) (hq : s.pixQ = [b]) :
    step s = .next { s with
      pixQ := [], pixOut := s.pixOut ++ [b], sched := s.sched.tail, stepNo := s.stepNo + 1 } := by
  have noLatch : latchEnabled .p (takeTurn s) = false := by simp [latchEnabled, hlatched]
  have pops : pixPopEnabled (takeTurn s) = true := by
    simp [pixPopEnabled, genEnabled, Gen.index, hen, hloaded, hlatched, hq]
  have turn : genStep .p (takeTurn s) = pixPop (takeTurn s) := by simp [genStep, noLatch, pops]
  have taken : pixPop (takeTurn s) = { takeTurn s with pixQ := [], pixOut := s.pixOut ++ [b] } := by simp [pixPop, hq]
  rw [step, stepOnce, hturn, agentStep, turn, taken]
  rfl

/-- A fetched byte is pushed to an empty queue as it is (44_timing_generators.md R246). -/
theorem wrPixTxf_of_empty (b : Byte) (hq : s.pixQ = []) (hd : 1 ≤ s.params.pixDepth) :
    wrPixTxf (0#24 ++ b) s = { s with pixQ := [b] } := by
  have low : (0#24 ++ b).extractLsb' 0 8 = b := by
    apply BitVec.eq_of_toNat_eq
    rw [BitVec.extractLsb'_toNat, toNat_append_byte]
    simpa using b.isLt
  have room : s.pixQ.length < s.params.pixDepth := by rwa [hq]
  rw [wrPixTxf, if_pos room, low, hq]
  rfl

/-- A is at the start of a pass over `bytes` from `p`, B is idle, and the display takes what A pushes
(42_scanout_chain.md R204). -/
structure PassAt (s : State) (p : Addr) (bytes : List Byte) : Prop where
  wired : ScanoutWired s
  busyA : Ctrl.busy s.ch0.ctrl = true
  idleB : Ctrl.busy s.ch1.ctrl = false
  phase : s.ch0.phase = .read
  source : s.ch0.readAddr = p
  count : s.ch0.tcRemain = BitVec.ofNat 32 bytes.length
  short : bytes.length < 2 ^ 32
  mapped : passMapped s.params p bytes.length
  stored : ∀ k (h : k < bytes.length), s.mem.read? (addrAt p k).toNat = some bytes[k]
  queue : s.pixQ = []
  depth : 1 ≤ s.params.pixDepth
  enabled : s.genEnable.getLsbD 2 = true
  loaded : s.genP.loaded = true
  latched : s.genP.latched = true

variable {p : Addr} {b : Byte} {bs bytes : List Byte} {rest : List Agent}

theorem PassAt.ctrlA (h : PassAt s p bytes) : s.ch0.ctrl = Ctrl.putBusy true ctrlA :=
  eq_putBusy h.wired.ctrlOfA h.busyA

theorem PassAt.ctrlB (h : PassAt s p bytes) : s.ch1.ctrl = ctrlB :=
  (eq_putBusy h.wired.ctrlOfB h.idleB).trans putBusy_false_ctrlB

/-- The turns that display one byte. -/
def byteTurns : List Agent := [.chan .ch0, .chan .ch0, .gen .p]

/-- The state after A's read of a byte. -/
def fetched (b : Byte) (s : State) : State :=
  { s with ch0 := { s.ch0 with hold := 0#24 ++ b, phase := .write }, sched := s.sched.tail, stepNo := s.stepNo + 1 }

theorem nextAgent_fetched (hs : s.sched = byteTurns ++ rest) : nextAgent (fetched b s) = .chan .ch0 :=
  nextAgent_of_sched (s := fetched b s) (turns := .gen .p :: rest) (by rw [fetched, hs]; rfl)

/-- The state after a byte has been read, pushed and displayed, with more to come. -/
def shown (b : Byte) (rest : List Agent) (s : State) : State :=
  { s with
    ch0 := { s.ch0 with
      readAddr := addrAt s.ch0.readAddr 1, tcRemain := s.ch0.tcRemain - 1#32, phase := .read, hold := 0#24 ++ b }
    pixOut := s.pixOut ++ [b], stepNo := s.stepNo + 3, sched := rest }

/-- The state after a pass: A is idle behind its last byte and B is busy (42_scanout_chain.md R205). -/
def passShown (bytes : List Byte) (x : Word) (rest : List Agent) (s : State) : State :=
  { s with
    ch0 := { s.ch0 with
      readAddr := addrAt s.ch0.readAddr bytes.length, tcRemain := 0#32, phase := .read, hold := x, ctrl := ctrlA }
    ch1 := { s.ch1 with tcRemain := 1#32, phase := .read, ctrl := Ctrl.putBusy true ctrlB }
    pixOut := s.pixOut ++ bytes, stepNo := s.stepNo + 3 * bytes.length, sched := rest }

/-- A's read of the pass's first byte. -/
theorem PassAt.step_fetch (h : PassAt s p (b :: bs)) (hs : s.sched = byteTurns ++ rest) :
    step s = .next (fetched b s) := by
  have room : s.pixQ.length < s.params.pixDepth := by
    rw [h.queue]
    exact h.depth
  have memory : isMemory s.params s.ch0.readAddr = true := by
    simpa [h.source, addrAt_zero] using h.mapped 0 (by simp)
  have first : s.mem.read? (addrAt p 0).toNat = some b := h.stored 0 (by simp)
  have value : readByte s s.ch0.readAddr = b := readByte_of_read (by rwa [h.source, ← addrAt_zero p])
  rw [step_of_readA (nextAgent_of_sched hs) h.ctrlA h.phase room memory, value]
  rfl

/-- The three turns of a byte, whatever its write leaves of A and B. -/
theorem PassAt.run_byte {c d : Channel} (h : PassAt s p (b :: bs)) (hs : s.sched = byteTurns ++ rest)
    (hwrite : step (fetched b s) = .next { wrPixTxf (0#24 ++ b) (fetched b s) with
      ch0 := c, ch1 := d, sched := (fetched b s).sched.tail, stepNo := s.stepNo + 2 }) :
    core.run 3 s = .next { s with
      ch0 := c, ch1 := d, pixOut := s.pixOut ++ [b], stepNo := s.stepNo + 3, sched := rest } := by
  have turns : (fetched b s).sched.tail = .gen .p :: rest := by rw [fetched, hs]; rfl
  rw [wrPixTxf_of_empty (s := fetched b s) b h.queue h.depth, turns] at hwrite
  calc core.run 3 s
    _ = core.run 2 (fetched b s) := run_succ (h.step_fetch hs)
    _ = core.run 1 _ := run_succ hwrite
    _ = core.run 0 _ := run_succ (step_of_pop rfl h.enabled h.loaded h.latched rfl)
    _ = _ := by rw [run_zero, ← h.queue]; rfl

/-- The count of a pass is 1 exactly at its last byte. -/
theorem PassAt.count_eq_one_iff (h : PassAt s p (b :: bs)) : s.ch0.tcRemain = 1#32 ↔ bs = [] := by
  have short := h.short
  rw [List.length_cons] at short
  rw [h.count, ← BitVec.toNat_inj, BitVec.toNat_ofNat, List.length_cons, Nat.mod_eq_of_lt short]
  simp

/-- A byte before the last. -/
theorem PassAt.run_more (h : PassAt s p (b :: bs)) (hmore : bs ≠ []) (hs : s.sched = byteTurns ++ rest) :
    core.run 3 s = .next (shown b rest s) :=
  h.run_byte hs (step_of_writeA_more (s := fetched b s) (nextAgent_fetched hs) h.ctrlA rfl h.wired.destOfA
    (mt h.count_eq_one_iff.1 hmore))

/-- The last byte, with whose write B starts. -/
theorem PassAt.run_last (h : PassAt s p [b]) (hs : s.sched = byteTurns ++ rest) :
    core.run 3 s = .next (passShown [b] (0#24 ++ b) rest s) :=
  h.run_byte hs (step_of_writeA_last (s := fetched b s) (nextAgent_fetched hs) h.ctrlA rfl h.wired.destOfA
    (h.count_eq_one_iff.2 rfl) h.ctrlB h.wired.countOfB)

/-- After a byte A is at the start of a pass over the others. -/
theorem PassAt.shown (h : PassAt s p (b :: bs)) (rest : List Agent) : PassAt (shown b rest s) (addrAt p 1) bs where
  __ := h
  wired := { h.wired with }
  phase := rfl
  source := congrArg (addrAt · 1) h.source
  count := by
    show s.ch0.tcRemain - 1#32 = _
    rw [h.count, List.length_cons]
    bv_omega
  short := Nat.lt_of_succ_lt h.short
  mapped := passMapped_tail h.mapped
  stored k hk := by
    rw [addrAt_addrAt, Nat.add_comm]
    exact h.stored (k + 1) (Nat.succ_lt_succ hk)

theorem passShown_shown (b c : Byte) (cs : List Byte) (x : Word) (turns : List Agent) (s : State) :
    passShown (c :: cs) x rest (shown b turns s) = passShown (b :: c :: cs) x rest s := by
  have steps : s.stepNo + 3 + 3 * (c :: cs).length = s.stepNo + 3 * (b :: c :: cs).length := by
    simp only [List.length_cons]
    omega
  have ahead : 1 + (c :: cs).length = (b :: c :: cs).length := Nat.add_comm 1 _
  simp only [passShown, shown, steps, ahead, addrAt_addrAt, List.append_assoc, List.cons_append, List.nil_append]

theorem repeatTurns_succ (k : Nat) (turns : List Agent) :
    repeatTurns (k + 1) turns = turns ++ repeatTurns k turns := by simp [repeatTurns, List.replicate_succ]

/-- A pass, byte by byte. -/
theorem PassAt.run (h : PassAt s p bytes) (hne : bytes ≠ [])
    (hs : s.sched = repeatTurns bytes.length byteTurns ++ rest) :
    ∃ x, core.run (3 * bytes.length) s = .next (passShown bytes x rest s) := by
  induction bytes generalizing s p with
  | nil => exact absurd rfl hne
  | cons b bs ih =>
    rw [List.length_cons, repeatTurns_succ, List.append_assoc] at hs
    cases bs with
    | nil => exact ⟨_, h.run_last hs⟩
    | cons c cs =>
      obtain ⟨x, hx⟩ := ih (h.shown _) (by simp) rfl
      refine ⟨x, ?_⟩
      rw [passShown_shown] at hx
      rw [← hx, ← run_add (h.run_more (by simp) hs), List.length_cons, Nat.mul_succ, Nat.add_comm]

/-- Settles O54, byte by byte. -/
theorem scanoutPass : Obligations.ScanoutPass := by
  intro s p bytes hwired hA hB hphase hsource hcount hne hshort hmap hstored hq hd hen hloaded hlatched hs
  have pass : PassAt s p bytes :=
    ⟨hwired, hA, hB, hphase, hsource, hcount, hshort, hmap, hstored, hq, hd, hen, hloaded, hlatched⟩
  obtain ⟨x, hx⟩ := pass.run (rest := []) hne (by rw [hs, List.append_nil]; rfl)
  refine ⟨_, hx, ?_⟩
  rw [passShown, hsource, ← hphase]
  rfl

/-! ### The framebuffer repeated -/

/-- A word of memory by the bytes written there (20_memory.md R92, R93). -/
theorem memRead_word_of_bytes {a : Addr} {v : Word}
    (h : ∀ j, j < 4 → s.mem.read? (addrAt a j).toNat = some (v.extractLsb' (8 * j) 8)) : memRead a .word s = v := by
  have byte (j : Nat) (hj : j < 4) : readByte s (addrAt a j) = v.extractLsb' (8 * j) 8 := readByte_of_read (h j hj)
  apply BitVec.eq_of_toNat_eq
  simp only [memRead, wordOf, byte 0 (by decide), byte 1 (by decide), byte 2 (by decide), byte 3 (by decide),
    toNat_append_byte, BitVec.extractLsb'_toNat, Nat.shiftRight_eq_div_pow]
  omega

/-- A wired chain at the start of a pass over the whole framebuffer, whose address the pointer cell holds
(42_scanout_chain.md R208). -/
structure FrameStart (s : State) (p : Addr) (bytes : List Byte) : Prop extends PassAt s p bytes where
  legal : s.params.legal = true
  reload : s.ch0.tcReload = BitVec.ofNat 32 bytes.length
  pointer : ∀ j, j < 4 → s.mem.read? (addrAt s.ch1.readAddr j).toNat = some (p.extractLsb' (8 * j) 8)

theorem FrameStart.bytes_ne_nil (h : FrameStart s p bytes) : bytes ≠ [] := by
  rintro rfl
  exact h.wired.countOfA h.reload

/-- The chain after a pass is ready to re-arm. -/
theorem FrameStart.readyToRearm (h : FrameStart s p bytes) (x : Word) (rest : List Agent) :
    ReadyToRearm (passShown bytes x rest s) where
  ctrlB := rfl
  phase := rfl
  count := rfl
  source := h.wired.sourceOfB
  cell := h.wired.cellMapped
  dest := h.wired.destOfB
  legal := h.legal
  startA := startable_of_ctrlA rfl h.wired.countOfA

/-- After a pass and a re-arm the chain is at the start of the next pass (42_scanout_chain.md R208). -/
theorem FrameStart.rearmed (h : FrameStart s p bytes) (x : Word) (turns rest : List Agent) :
    FrameStart (rearmed rest (passShown bytes x turns s)) p bytes :=
  { h with
    wired := { h.wired with
      ctrlOfA := (putBusy_putBusy false true ctrlA).trans putBusy_false_ctrlA, ctrlOfB := putBusy_false_ctrlB }
    busyA := busy_putBusy true ctrlA, idleB := busy_ctrlB, phase := rfl
    source := memRead_word_of_bytes h.pointer, count := h.reload }

/-- The turns of a pass over `n` bytes and a re-arm. -/
def roundTurns (n : Nat) : List Agent := repeatTurns n byteTurns ++ [.chan .ch1, .chan .ch1]

/-- A pass and a re-arm display the framebuffer once and lead to the start of the next pass. -/
theorem FrameStart.run_round (h : FrameStart s p bytes) (hs : s.sched = roundTurns bytes.length ++ rest) :
    ∃ t, core.run (3 * bytes.length + 2) s = .next t ∧ FrameStart t p bytes ∧ t.sched = rest ∧
      t.pixOut = s.pixOut ++ bytes ∧ t.mem = s.mem ∧ t.faults = s.faults := by
  rw [roundTurns, List.append_assoc] at hs
  obtain ⟨x, pass⟩ := h.run h.bytes_ne_nil hs
  exact ⟨_, (run_add pass).trans (run_rearm (h.readyToRearm x _) rfl), h.rearmed x _ rest, rfl, rfl, rfl, rfl⟩

/-- Any number of rounds. -/
theorem FrameStart.run_rounds (h : FrameStart s p bytes) (k : Nat)
    (hs : s.sched = repeatTurns k (roundTurns bytes.length)) :
    ∃ t, core.run (k * (3 * bytes.length + 2)) s = .next t ∧ FrameStart t p bytes ∧
      t.pixOut = s.pixOut ++ (List.replicate k bytes).flatten ∧ t.mem = s.mem ∧ t.faults = s.faults := by
  induction k generalizing s with
  | zero => exact ⟨s, by rw [Nat.zero_mul, run_zero], h, by simp, rfl, rfl⟩
  | succ k ih =>
    rw [repeatTurns_succ] at hs
    obtain ⟨u, once, hu, turns, out, mem, faults⟩ := h.run_round hs
    obtain ⟨t, others, ht, out', mem', faults'⟩ := ih hu turns
    refine ⟨t, ?_, ht, ?_, mem'.trans mem, faults'.trans faults⟩
    · rw [Nat.succ_mul, Nat.add_comm, run_add once, others]
    · rw [out', out, List.append_assoc, List.replicate_succ, List.flatten_cons]

theorem FrameStart.streaming (h : FrameStart s p bytes) : chainState s = .streaming := by
  rw [chainState, h.busyA, h.idleB]

/-- Settles O56, round by round. -/
theorem framebufferRepeats : Obligations.FramebufferRepeats := by
  intro s p bytes k hwired hlegal hA hB hphase hsource hfull hreload hshort hmap hstored hcell hq hen hloaded hlatched hs
  have pass : PassAt s p bytes :=
    ⟨hwired, hA, hB, hphase, hsource, hfull.trans hreload, hshort, hmap, hstored, hq, Params.one_le_pixDepth hlegal,
      hen, hloaded, hlatched⟩
  have start : FrameStart s p bytes := { pass with legal := hlegal, reload := hreload, pointer := hcell }
  obtain ⟨t, run, ht, out, mem, faults⟩ := start.run_rounds k hs
  exact ⟨t, run, out, mem, ht.streaming, ht.source, ht.count.trans ht.reload.symm, faults⟩


/-! ### The chain's death -/

/-- The state after channel `n`'s failing read: READ_ERR, no BUSY, and the entry in FAULTS (42_scanout_chain.md R213). -/
def readFailed (n : Chan) (s : State) : State :=
  { s.setCh n { s.ch n with ctrl := Ctrl.putBusy false (Ctrl.setReadErr (s.ch n).ctrl) } with
    faults := s.faults ++ [.readErr n (s.ch n).readAddr], sched := s.sched.tail, stepNo := s.stepNo + 1 }

theorem step_of_readFault {n : Chan} {sz : Size} (hturn : nextAgent s = .chan n) (hen : chEnabled n s = true)
    (hphase : (s.ch n).phase = .read) (hsize : Ctrl.dataSize (s.ch n).ctrl = sz.code)
    (hchain : (Ctrl.chainTo (s.ch n).ctrl).toNat ≤ 2)
    (hfault : (s.ch n).readAddr.toNat % sz.bytes ≠ 0 ∨ busRead (s.ch n).readAddr sz s = none) :
    step s = .next (readFailed n s) := by
  rw [step_of_readPhase hturn hen hphase hsize hchain, chReadPhase_of_fault (by rwa [takeTurn_ch, busRead_takeTurn]),
    raiseEvent_readErr, takeTurn_ch]
  rfl

/-- A failing read of A with B idle leaves the chain dead (42_scanout_chain.md R203, R213). -/
theorem chainState_readFailed_A (hB : Ctrl.busy s.ch1.ctrl = false) : chainState (readFailed .ch0 s) = .dead := by
  simp [chainState, readFailed, State.setCh, hB]

theorem chainState_readFailed_B (hA : Ctrl.busy s.ch0.ctrl = false) : chainState (readFailed .ch1 s) = .dead := by
  simp [chainState, readFailed, State.setCh, hA]

/-- A start followed by a failing read adds READ_ERR to an idle channel's CTRL. -/
theorem putBusy_setReadErr_putBusy {c : Word} (h : Ctrl.busy c = false) :
    Ctrl.putBusy false (Ctrl.setReadErr (Ctrl.putBusy true c)) = c ||| 0x40000000#32 := by
  show _ = Ctrl.setReadErr c
  apply BitVec.eq_of_getLsbD_eq
  intro j _
  simp only [Ctrl.putBusy, Ctrl.setReadErr, getLsbD_putBit]
  by_cases hj : j = 24
  · subst hj
    have clear : c.getLsbD 24 = false := h
    simp only [clear]
    decide
  · simp [hj]

/-- Whether a read has a value depends on the parameters only (20_memory.md R94, R95). -/
theorem busRead_eq_none_congr (a : Addr) (sz : Size) (hp : t.params = s.params) :
    busRead a sz t = none ↔ busRead a sz s = none := by
  unfold busRead
  rw [hp]
  split_ifs <;> simp

/-- A read that fails once A has been re-armed with the pointer cell's value, whatever A's element size
(70_reset_and_hazards.md R369). -/
theorem step_of_rearmed_fault {sz : Size} {rest : List Agent} (h : Startable s.ch0)
    (hsize : Ctrl.dataSize s.ch0.ctrl = sz.code) (hroom : s.pixQ.length < s.params.pixDepth)
    (hfault : (memRead s.ch1.readAddr .word s).toNat % sz.bytes ≠ 0 ∨
      busRead (memRead s.ch1.readAddr .word s) sz s = none) :
    step (rearmed (.chan .ch0 :: rest) s) = .next (readFailed .ch0 (rearmed (.chan .ch0 :: rest) s)) := by
  have ctrl : ((rearmed (.chan .ch0 :: rest) s).ch .ch0).ctrl = Ctrl.putBusy true s.ch0.ctrl := rfl
  obtain ⟨_, chain, treq⟩ := configLegal_iff.1 h.legal
  have ready : Ctrl.treqSel s.ch0.ctrl = 0#2 ∨
      (Ctrl.treqSel s.ch0.ctrl = 1#2 ∧ s.pixQ.length < s.params.pixDepth) := by
    rcases (by omega : (Ctrl.treqSel s.ch0.ctrl).toNat = 0 ∨ (Ctrl.treqSel s.ch0.ctrl).toNat = 1) with e | e
    · exact .inl (BitVec.eq_of_toNat_eq e)
    · exact .inr ⟨BitVec.eq_of_toNat_eq e, hroom⟩
  have enabled : chEnabled .ch0 (rearmed (.chan .ch0 :: rest) s) = true := by
    rw [chEnabled_iff, ctrl, busy_putBusy, en_putBusy, treqSel_putBusy]
    exact ⟨rfl, h.enabled, .inr ready⟩
  have faultLater := hfault.imp_right
    (busRead_eq_none_congr (s := s) (t := rearmed (.chan .ch0 :: rest) s) (memRead s.ch1.readAddr .word s) sz rfl).2
  exact step_of_readFault rfl enabled rfl (by rwa [ctrl, dataSize_putBusy]) (by rwa [ctrl, chainTo_putBusy]) faultLater

/-- Settles O59: A's and B's failing reads by the rule of a read fault, and the third clause by the re-arm's run and the
same rule. -/
theorem chainDies : Obligations.ChainDies := by
  intro s hB
  refine ⟨?readA, ?readB, ?rearmed⟩
  case readA =>
    intro hA hturn busyA idleB hphase hroom hnone
    have hctrl := eq_putBusy hA busyA
    have fails : step s = .next (readFailed .ch0 s) :=
      step_of_readFault (sz := .byte) hturn (chEnabled_of_ctrlA hctrl (.inr hroom)) hphase
        (by rw [State.ch_ch0, hctrl]; decide) (by rw [State.ch_ch0, hctrl]; decide) (.inr hnone)
    refine ⟨_, fails, chainState_readFailed_A idleB, ?_⟩
    rw [readFailed, State.ch_ch0, hctrl]
    rfl
  case readB =>
    intro hturn idleA busyB hphase hfault
    have hctrl := eq_putBusy hB busyB
    have fails : step s = .next (readFailed .ch1 s) :=
      step_of_readFault (sz := .word) hturn (chEnabled_of_ctrlB hctrl) hphase
        (by rw [State.ch_ch1, hctrl]; decide) (by rw [State.ch_ch1, hctrl]; decide) hfault
    refine ⟨_, fails, chainState_readFailed_B idleA, ?_⟩
    rw [readFailed, State.ch_ch1, hctrl]
    rfl
  case rearmed =>
    intro sz hlegal busyB hphase hcount hdest hal hcell idleA noErr hen hconf hsize hreload hroom hs q hfault
    have startA : Startable s.ch0 := ⟨idleA, noErr, hen, hconf, hreload⟩
    have ready : ReadyToRearm s := ⟨eq_putBusy hB busyB, hphase, hcount, hal, hcell, hdest, hlegal, startA⟩
    have run : core.run 3 s = .next (readFailed .ch0 (rearmed [.chan .ch0] s)) :=
      calc core.run 3 s
        _ = core.run 1 (rearmed [.chan .ch0] s) := run_add (k := 1) (run_rearm ready hs)
        _ = core.run 0 _ := run_succ (step_of_rearmed_fault startA hsize hroom hfault)
    refine ⟨_, run, chainState_readFailed_A busy_ctrlB, ?_⟩
    rw [← putBusy_setReadErr_putBusy idleA]
    rfl

end Sys2Proof.Machine
end

section
/-! # Memory transfer (43_memory_transfer.md)

The colour codes; what CTRL a fill or a copy gives channel 2, and one rule for each phase of the channel under it; the
transfer of a list of bytes, element by element; the bytes a fill and a copy move; and the host's procedures, put together
from those: a whole transfer, one of nothing, and one whose read or write fails. -/

namespace Sys2Proof.Machine

/-! ### The colour codes -/

/-- Settles O53: the two tables are computed, and the eight combinations of channels are compared one by one. -/
theorem colourCodes : Obligations.ColourCodes := ⟨rfl, rfl, by decide⟩

variable {s t : State} {c v : Word}

/-! ### A byte in a word -/

theorem setWidth_byte (b : Byte) : b.setWidth 32 = 0#24 ++ b := BitVec.setWidth_eq_append (by decide)

theorem extractLsb_append_byte (b : Byte) : (0#24 ++ b).extractLsb' 0 8 = b := BitVec.extractLsb'_append_eq_right

/-! ### The CTRL of a fill and of a copy -/

/-- A CTRL that makes channel 2 move single bytes to rising addresses, unpaced and with no other channel after it
(43_memory_transfer.md R221, R222). A fill's source stays, a copy's rises: INCR_READ is left open. -/
structure MovesBytes (c : Word) : Prop where
  enabled : Ctrl.en c = true
  size : Ctrl.dataSize c = Size.byte.code
  incrWrite : Ctrl.incrWrite c = true
  self : Ctrl.chainTo c = 2#3
  unpaced : Ctrl.treqSel c = 0#2

theorem movesBytes_ctrlFill : MovesBytes ctrlFill := by constructor <;> decide

theorem movesBytes_ctrlCopy : MovesBytes ctrlCopy := by constructor <;> decide

/-- A field of CTRL that is writable as a whole is the written value's, in an idle channel (40_channel_registers.md R156). -/
theorem extractLsb_written_of_idle {i n : Nat} (v : Word) (h : Ctrl.busy c = false)
    (hmask : ∀ j, j < n → Ctrl.writeMask.getLsbD (i + j) = true) :
    (Ctrl.written c v).extractLsb' i n = v.extractLsb' i n := by
  apply BitVec.eq_of_getLsbD_eq
  intro j hj
  simp only [BitVec.getLsbD_extractLsb', getLsbD_written_of_idle v h, hmask j hj, if_true]

theorem incrRead_written_of_idle (v : Word) (h : Ctrl.busy c = false) :
    Ctrl.incrRead (Ctrl.written c v) = Ctrl.incrRead v := getLsbD_written_of_idle v h 4

theorem MovesBytes.written (h : MovesBytes v) (hidle : Ctrl.busy c = false) : MovesBytes (Ctrl.written c v) where
  enabled := (getLsbD_written_of_idle v hidle 0).trans h.enabled
  size := (extractLsb_written_of_idle v hidle (by decide)).trans h.size
  incrWrite := (getLsbD_written_of_idle v hidle 5).trans h.incrWrite
  self := (extractLsb_written_of_idle v hidle (by decide)).trans h.self
  unpaced := (extractLsb_written_of_idle v hidle (by decide)).trans h.unpaced

theorem MovesBytes.putBusy (h : MovesBytes c) (b : Bool) : MovesBytes (Ctrl.putBusy b c) where
  enabled := (en_putBusy b c).trans h.enabled
  size := (dataSize_putBusy b c).trans h.size
  incrWrite := (incrWrite_putBusy b c).trans h.incrWrite
  self := (chainTo_putBusy b c).trans h.self
  unpaced := (treqSel_putBusy b c).trans h.unpaced

theorem MovesBytes.configLegal (h : MovesBytes c) : Ctrl.configLegal c = true := by
  rw [configLegal_iff, h.size, h.self, h.unpaced]
  decide

theorem MovesBytes.chainTo_le (h : MovesBytes c) : (Ctrl.chainTo c).toNat ≤ 2 := by
  rw [h.self]
  decide

theorem MovesBytes.chain (h : MovesBytes c) : Ctrl.chain? c = some .ch2 := chain_eq_some_iff.2 (congrArg _ h.self)

theorem MovesBytes.chEnabled (h : MovesBytes s.ch2.ctrl) (hbusy : Ctrl.busy s.ch2.ctrl = true) :
    chEnabled .ch2 s = true :=
  chEnabled_iff.2 ⟨hbusy, h.enabled, .inr (.inl h.unpaced)⟩

/-! ### One rule for each phase of channel 2 -/

/-- The source of element `i` of a transfer from `a`: INCR_READ says whether the address rises (10_state.md R39). -/
def sourceAt (incr : Bool) (a : Addr) (i : Nat) : Addr := if incr then addrAt a i else a

theorem sourceAt_zero (incr : Bool) (a : Addr) : sourceAt incr a 0 = a := by
  cases incr
  · rfl
  · exact addrAt_zero a

theorem sourceAt_sourceAt (incr : Bool) (a : Addr) (i j : Nat) :
    sourceAt incr (sourceAt incr a i) j = sourceAt incr a (i + j) := by
  cases incr
  · rfl
  · exact addrAt_addrAt a i j

theorem MovesBytes.advanced {d : Channel} (h : MovesBytes d.ctrl) : advanced .byte d =
    { d with
      readAddr := sourceAt (Ctrl.incrRead d.ctrl) d.readAddr 1, writeAddr := addrAt d.writeAddr 1
      tcRemain := d.tcRemain - 1#32, phase := .read } := by
  rw [Machine.advanced, if_pos h.incrWrite]
  rfl

/-- The state after channel 2's read of a byte (41_transfer_engine.md R177). -/
def holding (b : Byte) (s : State) : State :=
  { s with ch2 := { s.ch2 with hold := 0#24 ++ b, phase := .write }, sched := s.sched.tail, stepNo := s.stepNo + 1 }

/-- Channel 2 reads a byte of memory that has been written. -/
theorem step_of_read2 {b : Byte} (hturn : nextAgent s = .chan .ch2) (hbusy : Ctrl.busy s.ch2.ctrl = true)
    (hctrl : MovesBytes s.ch2.ctrl) (hphase : s.ch2.phase = .read) (hmem : isMemory s.params s.ch2.readAddr = true)
    (hstored : s.mem.read? s.ch2.readAddr.toNat = some b) : step s = .next (holding b s) := by
  have value : busRead ((takeTurn s).ch .ch2).readAddr .byte (takeTurn s) = some (0#24 ++ b) := by
    rw [busRead_takeTurn, takeTurn_ch, ← readByte_of_read hstored]
    exact busRead_byte hmem
  rw [step_of_readPhase hturn (hctrl.chEnabled hbusy) hphase hctrl.size hctrl.chainTo_le,
    chReadPhase_of_value (Nat.mod_one _) value]
  rfl

theorem nextAgent_holding {b : Byte} {a : Agent} {rest : List Agent} (hs : s.sched = a :: .chan .ch2 :: rest) :
    nextAgent (holding b s) = .chan .ch2 := nextAgent_of_sched (by rw [holding, hs]; rfl)

/-- Channel 2 writes a byte of memory and goes on (41_transfer_engine.md R179, R180). -/
theorem step_of_write2 (hturn : nextAgent s = .chan .ch2) (hbusy : Ctrl.busy s.ch2.ctrl = true)
    (hctrl : MovesBytes s.ch2.ctrl) (hphase : s.ch2.phase = .write)
    (hmem : isMemory s.params s.ch2.writeAddr = true) :
    step s = .next (countStep (finishElement .ch2 .byte
      { takeTurn s with mem := s.mem.write s.ch2.writeAddr.toNat (s.ch2.hold.extractLsb' 0 8) })) := by
  have written : busWrite ((takeTurn s).ch .ch2).writeAddr .byte ((takeTurn s).ch .ch2).hold (takeTurn s) =
      some { takeTurn s with mem := s.mem.write s.ch2.writeAddr.toNat (s.ch2.hold.extractLsb' 0 8) } := by
    rw [takeTurn_ch]
    exact busWrite_byte (s := takeTurn s) s.ch2.hold hmem
  rw [step_of_writePhase hturn (hctrl.chEnabled hbusy) hphase hctrl.size hctrl.chainTo_le,
    chWritePhase_of_written (Nat.mod_one _) written]

theorem allMapped_byte (p : Params) (a : Addr) : allMapped p a .byte = memMapped p a := by
  simp [allMapped, Size.bytes, addrAt_zero]

/-- A byte outside the window where nothing is mapped has no value (20_memory.md R94). -/
theorem busRead_byte_unmapped {a : Addr} (hwin : inWindow s.params a = false) (hmap : memMapped s.params a = false) :
    busRead a .byte s = none := by
  rw [busRead_memory .byte hwin, allMapped_byte, hmap]
  rfl

theorem busWrite_byte_unmapped {a : Addr} (v : Word) (hwin : inWindow s.params a = false)
    (hmap : memMapped s.params a = false) : busWrite a .byte v s = none := by
  rw [busWrite_memory .byte v hwin, allMapped_byte, hmap]
  rfl

/-- The state after channel `n`'s failing write: WRITE_ERR, no BUSY, and the entry in FAULTS (41_transfer_engine.md R179;
60_exceptions.md R311). -/
def writeFailed (n : Chan) (s : State) : State :=
  { s.setCh n { s.ch n with ctrl := Ctrl.putBusy false (Ctrl.setWriteErr (s.ch n).ctrl) } with
    faults := s.faults ++ [.writeErr n (s.ch n).writeAddr], sched := s.sched.tail, stepNo := s.stepNo + 1 }

/-- Channel 2's write where nothing is mapped fails (41_transfer_engine.md R179). -/
theorem step_of_writeFault2 (hturn : nextAgent s = .chan .ch2) (hbusy : Ctrl.busy s.ch2.ctrl = true)
    (hctrl : MovesBytes s.ch2.ctrl) (hphase : s.ch2.phase = .write)
    (hwin : inWindow s.params s.ch2.writeAddr = false) (hmap : memMapped s.params s.ch2.writeAddr = false) :
    step s = .next (writeFailed .ch2 s) := by
  rw [step_of_writePhase hturn (hctrl.chEnabled hbusy) hphase hctrl.size hctrl.chainTo_le,
    chWritePhase_of_fault (.inr (by rw [takeTurn_ch]; exact busWrite_byte_unmapped (s := takeTurn s) _ hwin hmap)),
    raiseEvent_writeErr, takeTurn_ch]
  rfl

/-! ### The bytes a transfer finds -/

/-- A byte read after a store of several is one of them or was there before. -/
theorem Memory.read_writeBytes_cases (m : Memory) (a : Addr) (bytes : List Byte) (x : Nat)
    (hlen : bytes.length ≤ 2 ^ 32) :
    (∃ j, ∃ h : j < bytes.length, x = (addrAt a j).toNat ∧ (m.writeBytes a bytes).read? x = some bytes[j]) ∨
    ((∀ j, j < bytes.length → x ≠ (addrAt a j).toNat) ∧ (m.writeBytes a bytes).read? x = m.read? x) := by
  by_cases hit : ∃ j, j < bytes.length ∧ x = (addrAt a j).toNat
  · obtain ⟨j, hj, rfl⟩ := hit
    exact .inl ⟨j, hj, rfl, Memory.read_writeBytes m a bytes j hj hlen⟩
  · have miss : ∀ j, j < bytes.length → x ≠ (addrAt a j).toNat := fun j hj e => hit ⟨j, hj, e⟩
    exact .inr ⟨miss, Memory.read_writeBytes_of_ne m a bytes x miss⟩

theorem Memory.writeBytes_append (m : Memory) (a : Addr) (bs cs : List Byte) :
    m.writeBytes a (bs ++ cs) = (m.writeBytes a bs).writeBytes (addrAt a bs.length) cs := by
  induction bs generalizing m a with
  | nil =>
    rw [List.nil_append, List.length_nil, addrAt_zero]
    rfl
  | cons b bs ih =>
    rw [List.length_cons, Nat.add_comm, ← addrAt_addrAt]
    exact ih _ _

/-- A transfer of `bytes.length` bytes over mapped memory moves `bytes`: element `i` finds byte `i` at its source once the
bytes before it are at the destination, where they may have changed the source (43_memory_transfer.md R224). -/
structure Delivers (p : Params) (m : Memory) (incr : Bool) (src dest : Addr) (bytes : List Byte) : Prop where
  sourceMapped : ∀ i, i < bytes.length → isMemory p (sourceAt incr src i) = true
  destMapped : passMapped p dest bytes.length
  stored : ∀ i (h : i < bytes.length),
    (m.writeBytes dest (bytes.take i)).read? (sourceAt incr src i).toNat = some bytes[i]

variable {p : Params} {m : Memory} {incr : Bool} {src dest : Addr} {b : Byte} {bs cs bytes : List Byte}

theorem Delivers.head (h : Delivers p m incr src dest (b :: bs)) :
    isMemory p src = true ∧ isMemory p dest = true ∧ m.read? src.toNat = some b := by
  have stored : (m.writeBytes dest []).read? (sourceAt incr src 0).toNat = some b := h.stored 0 (by simp)
  have read := h.sourceMapped 0 (by simp)
  have written := h.destMapped 0 (by simp)
  rw [sourceAt_zero] at stored read
  rw [addrAt_zero] at written
  exact ⟨read, written, stored⟩

/-- Once its first bytes are moved, a transfer moves the others. -/
theorem Delivers.drop (h : Delivers p m incr src dest (bs ++ cs)) :
    Delivers p (m.writeBytes dest bs) incr (sourceAt incr src bs.length) (addrAt dest bs.length) cs where
  sourceMapped i hi := by
    rw [sourceAt_sourceAt]
    exact h.sourceMapped _ (by rw [List.length_append]; omega)
  destMapped i hi := by
    rw [addrAt_addrAt]
    exact h.destMapped _ (by rw [List.length_append]; omega)
  stored i hi := by
    have stored := h.stored (bs.length + i) (by rw [List.length_append]; omega)
    rw [List.take_length_add_append, List.getElem_append_right (Nat.le_add_right _ _),
      Memory.writeBytes_append] at stored
    simpa only [sourceAt_sourceAt, Nat.add_sub_cancel_left] using stored

/-- A byte written over with its own value keeps it. -/
theorem Memory.read_writeBytes_replicate {n : Nat} (dest : Addr) (h : m.read? src.toNat = some b) (hn : n ≤ 2 ^ 32) :
    (m.writeBytes dest (List.replicate n b)).read? src.toNat = some b := by
  rcases Memory.read_writeBytes_cases m dest (List.replicate n b) src.toNat (by rwa [List.length_replicate]) with
    ⟨j, _, _, e⟩ | ⟨_, e⟩
  · rw [e, List.getElem_replicate]
  · rw [e, h]

/-- A fill moves its source byte again and again, also where the source lies in the destination
(43_memory_transfer.md R221). -/
theorem delivers_fill {n : Nat} (hsrc : isMemory p src = true) (hdest : passMapped p dest n)
    (h : m.read? src.toNat = some b) (hn : n ≤ 2 ^ 32) : Delivers p m false src dest (List.replicate n b) where
  sourceMapped _ _ := hsrc
  destMapped := by rwa [List.length_replicate]
  stored i hi := by
    rw [List.length_replicate] at hi
    rw [List.take_replicate, List.getElem_replicate]
    exact Memory.read_writeBytes_replicate dest h (by omega)

/-- The bytes a copy of `n` bytes moves, where `b` are the source's bytes at its start and the destination lies `d` above
the source (43_memory_transfer.md R224). -/
def copied (b : Nat → Byte) (d n : Nat) : List Byte := (List.range n).map fun i => b (i % d)

theorem length_copied (b : Nat → Byte) (d n : Nat) : (copied b d n).length = n := by simp [copied]

theorem getElem_copied {b : Nat → Byte} {d n i : Nat} (hi : i < (copied b d n).length) :
    (copied b d n)[i] = b (i % d) := by simp [copied]

/-- Source byte `i` is an earlier destination byte `j` exactly when the destination lies `i - j` above the source. -/
theorem addrAt_eq_iff {i j : Nat} (hji : j < i) (hi : i < 2 ^ 32) :
    (addrAt src i).toNat = (addrAt dest j).toNat ↔ i = (dest - src).toNat + j := by
  simp only [addrAt, BitVec.toNat_add, BitVec.toNat_sub, BitVec.toNat_ofNat]
  omega

/-- A copy finds at source byte `i` what it stored there `d` elements before, if it did, and else what was there at its
start (43_memory_transfer.md R224). -/
theorem delivers_copy {n : Nat} {b : Nat → Byte} (hsrc : passMapped p src n) (hdest : passMapped p dest n)
    (h : ∀ i, i < n → m.read? (addrAt src i).toNat = some (b i)) (hn : n < 2 ^ 32) :
    Delivers p m true src dest (copied b (dest - src).toNat n) where
  sourceMapped := by rwa [length_copied]
  destMapped := by rwa [length_copied]
  stored i hi := by
    have hin : i < n := by rwa [length_copied] at hi
    have taken : ((copied b (dest - src).toNat n).take i).length = i := by
      rw [List.length_take, length_copied, Nat.min_eq_left hin.le]
    rw [getElem_copied]
    show (m.writeBytes dest _).read? (addrAt src i).toNat = _
    rcases Memory.read_writeBytes_cases m dest ((copied b (dest - src).toNat n).take i) (addrAt src i).toNat
      (by omega) with ⟨j, hj, same, e⟩ | ⟨apart, e⟩
    · rw [taken] at hj
      rw [e, List.getElem_take, getElem_copied, (addrAt_eq_iff hj (by omega)).1 same, Nat.add_mod_left]
    · have early : i % (dest - src).toNat = i := by
        by_cases zero : (dest - src).toNat = 0
        · rw [zero, Nat.mod_zero]
        · refine Nat.mod_eq_of_lt (Nat.lt_of_not_le fun late => apart (i - (dest - src).toNat) (by omega) ?_)
          exact (addrAt_eq_iff (by omega) (by omega)).2 (by omega)
      rw [e, h i hin, early]

/-! ### A transfer, element by element -/

/-- Channel 2 is at the start of a transfer that moves `bytes`. -/
structure TransferAt (s : State) (bytes : List Byte) : Prop where
  busy : Ctrl.busy s.ch2.ctrl = true
  ctrl : MovesBytes s.ch2.ctrl
  phase : s.ch2.phase = .read
  delivers : Delivers s.params s.mem (Ctrl.incrRead s.ch2.ctrl) s.ch2.readAddr s.ch2.writeAddr bytes

/-- The state within a write phase: the byte is stored, the channel not yet advanced. -/
def inFlight (b : Byte) (rest : List Agent) (s : State) : State :=
  { s with
    ch2 := { s.ch2 with hold := 0#24 ++ b, phase := .write }
    mem := s.mem.write s.ch2.writeAddr.toNat b, sched := rest, stepNo := s.stepNo + 1 }

/-- The state after elements that are not the last: `bytes` are at the destination, the addresses and the count have
moved on (41_transfer_engine.md R180, R186). -/
def moved (bytes : List Byte) (x : Word) (rest : List Agent) (s : State) : State :=
  { s with
    ch2 := { s.ch2 with
      readAddr := sourceAt (Ctrl.incrRead s.ch2.ctrl) s.ch2.readAddr bytes.length
      writeAddr := addrAt s.ch2.writeAddr bytes.length
      tcRemain := s.ch2.tcRemain - BitVec.ofNat 32 bytes.length, phase := .read, hold := x }
    mem := s.mem.writeBytes s.ch2.writeAddr bytes, sched := rest, stepNo := s.stepNo + 2 * bytes.length }

theorem moved_nil (hphase : s.ch2.phase = .read) : moved [] s.ch2.hold s.sched s = s := by
  simp [moved, sourceAt_zero, addrAt_zero, Memory.writeBytes, ← hphase]

theorem moved_moved (x y : Word) (turns rest : List Agent) (s : State) :
    moved cs y rest (moved bs x turns s) = moved (bs ++ cs) y rest s := by
  simp only [moved, sourceAt_sourceAt, addrAt_addrAt, BitVec.sub_sub, ← BitVec.ofNat_add,
    ← Memory.writeBytes_append, List.length_append, Nat.add_assoc, Nat.mul_add]

theorem TransferAt.drop (h : TransferAt s (bs ++ cs)) (x : Word) (rest : List Agent) :
    TransferAt (moved bs x rest s) cs where
  busy := h.busy
  ctrl := h.ctrl
  phase := rfl
  delivers := h.delivers.drop

variable {rest turns : List Agent}

/-- The two turns of an element (41_transfer_engine.md R177, R179). -/
theorem TransferAt.run_element (h : TransferAt s (b :: bs)) (hs : s.sched = .chan .ch2 :: .chan .ch2 :: rest) :
    core.run 2 s = .next (countStep (finishElement .ch2 .byte (inFlight b rest s))) := by
  obtain ⟨source, dest, stored⟩ := h.delivers.head
  have reads := step_of_read2 (nextAgent_of_sched hs) h.busy h.ctrl h.phase source stored
  have writes := step_of_write2 (s := holding b s) (nextAgent_holding hs) h.busy h.ctrl rfl dest
  calc core.run 2 s
    _ = core.run 1 _ := run_succ reads
    _ = core.run 0 _ := run_succ writes
    _ = _ := by
      rw [holding, extractLsb_append_byte, hs]
      rfl

theorem TransferAt.run_more (h : TransferAt s (b :: bs)) (hmore : s.ch2.tcRemain ≠ 1#32)
    (hs : s.sched = .chan .ch2 :: .chan .ch2 :: rest) :
    core.run 2 s = .next (moved [b] (0#24 ++ b) rest s) := by
  rw [h.run_element hs, finishElement_of_more (s := inFlight b rest s) (n := .ch2) .byte hmore, State.ch_ch2,
    MovesBytes.advanced (d := (inFlight b rest s).ch2) h.ctrl]
  rfl

theorem TransferAt.run_last (h : TransferAt s [b]) (hlast : s.ch2.tcRemain = 1#32)
    (hs : s.sched = .chan .ch2 :: .chan .ch2 :: rest) :
    core.run 2 s = .next ((moved [b] (0#24 ++ b) rest s).modCtrl .ch2 (Ctrl.putBusy false)) := by
  have self : ∀ m, Ctrl.chain? ((inFlight b rest s).ch .ch2).ctrl = some m → m = .ch2 :=
    fun m hm => Option.some.inj (hm.symm.trans h.ctrl.chain)
  rw [h.run_element hs, finishElement_of_last (s := inFlight b rest s) (n := .ch2) .byte hlast self, State.ch_ch2,
    finished, MovesBytes.advanced (d := (inFlight b rest s).ch2) h.ctrl]
  rfl

/-- Elements before the last. -/
theorem TransferAt.run (h : TransferAt s (bs ++ cs)) (hmore : bs.length < s.ch2.tcRemain.toNat)
    (hs : s.sched = List.replicate (2 * bs.length) (Agent.chan .ch2) ++ rest) :
    ∃ x, core.run (2 * bs.length) s = .next (moved bs x rest s) := by
  induction bs generalizing s with
  | nil =>
    have stays : moved [] s.ch2.hold rest s = s := by
      rw [show rest = s.sched from hs.symm, moved_nil h.phase]
    exact ⟨s.ch2.hold, by rw [stays]; rfl⟩
  | cons b bs ih =>
    rw [List.length_cons] at hmore
    have turns : s.sched = .chan .ch2 :: .chan .ch2 :: (List.replicate (2 * bs.length) (Agent.chan .ch2) ++ rest) := hs
    have more : s.ch2.tcRemain ≠ 1#32 := by bv_omega
    have fewer : bs.length < (s.ch2.tcRemain - 1#32).toNat := by bv_omega
    have first := h.run_more more turns
    obtain ⟨x, others⟩ := ih (h.drop (bs := [b]) (0#24 ++ b) _) fewer rfl
    refine ⟨x, ?_⟩
    rw [List.length_cons, Nat.mul_succ, Nat.add_comm, run_add first, others, moved_moved, List.singleton_append]

/-- All elements: the last leaves the channel idle (41_transfer_engine.md R182). -/
theorem TransferAt.run_whole (h : TransferAt s bytes) (hne : bytes ≠ [])
    (hcount : s.ch2.tcRemain.toNat = bytes.length)
    (hs : s.sched = List.replicate (2 * bytes.length) (Agent.chan .ch2) ++ rest) :
    ∃ b ∈ bytes, core.run (2 * bytes.length) s =
      .next ((moved bytes (0#24 ++ b) rest s).modCtrl .ch2 (Ctrl.putBusy false)) := by
  obtain ⟨bs, b, rfl⟩ := (List.eq_nil_or_concat' bytes).resolve_left hne
  rw [List.length_append, List.length_singleton] at hcount
  rw [List.length_append, List.length_singleton, Nat.mul_add, List.replicate_add, List.append_assoc] at hs
  obtain ⟨x, before⟩ := h.run (by omega) hs
  have one : (moved bs x (List.replicate 2 (.chan .ch2) ++ rest) s).ch2.tcRemain = 1#32 := by
    show s.ch2.tcRemain - BitVec.ofNat 32 bs.length = 1#32
    bv_omega
  refine ⟨b, by simp, ?_⟩
  rw [List.length_append, List.length_singleton, Nat.mul_add, run_add before,
    (h.drop x _).run_last (rest := rest) one rfl, moved_moved]

/-- The two turns of an element whose write fails (41_transfer_engine.md R179). -/
theorem TransferAt.run_writeFault (h : TransferAt s []) (hsrc : isMemory s.params s.ch2.readAddr = true)
    (hstored : s.mem.read? s.ch2.readAddr.toNat = some b) (hwin : inWindow s.params s.ch2.writeAddr = false)
    (hmap : memMapped s.params s.ch2.writeAddr = false) (hs : s.sched = .chan .ch2 :: .chan .ch2 :: rest) :
    core.run 2 s = .next (writeFailed .ch2 (holding b s)) := by
  have reads := step_of_read2 (nextAgent_of_sched hs) h.busy h.ctrl h.phase hsrc hstored
  calc core.run 2 s
    _ = core.run 1 (holding b s) := run_succ reads
    _ = core.run 0 _ := run_succ (step_of_writeFault2 (nextAgent_holding hs) h.busy h.ctrl rfl hwin hmap)

/-! ### The host's turns -/

variable {ops : List HostOp} {j k : Nat} {d e : Channel} {x : Response}

/-- The state `j` steps on, with channel 2, the turns, the host's accesses and its answer as given and all else as it
was. -/
def later (j : Nat) (d : Channel) (turns : List Agent) (ops : List HostOp) (x : Response) (s : State) : State :=
  { s with ch2 := d, sched := turns, hostQ := ops, stepNo := s.stepNo + j, resp := x }

/-- The state with the memory `m`. -/
def withMem (m : Memory) (s : State) : State := { s with mem := m }

/-- The state with more entries in FAULTS. -/
def recorded (es : List FaultEvent) (s : State) : State := { s with faults := s.faults ++ es }

theorem eq_later (hs : s.sched = turns) (hq : s.hostQ = ops) : s = later 0 s.ch2 turns ops s.resp s := by
  rw [← hs, ← hq]
  rfl

/-- The host's next access. -/
theorem run_op {op : HostOp} (h : hostOp op (later j d turns ops x s) = .next t) :
    core.run (k + 1) (later j d (.host :: turns) (op :: ops) x s) = core.run k (countStep t) :=
  run_host (s := later j d (.host :: turns) (op :: ops) x s) rfl rfl h

/-- A register write that changes nothing but channel 2. -/
theorem run_write {r : Reg} (h : regWrite r v (later j d turns ops x s) = later j e turns ops x s) :
    core.run (k + 1) (later j d (.host :: turns) (hostWr r v :: ops) x s) =
      core.run k (later (j + 1) e turns ops .ack s) := by
  have wrote : hostOp (hostWr r v) (later j d turns ops x s) = .next (acked (later j e turns ops x s)) := by
    rw [hostWr_eq, h]
  exact run_op wrote

/-- `wait_idle 2` with channel 2 idle (30_encoding.md R133). -/
theorem hostOp_waitIdle (h : Ctrl.busy s.ch2.ctrl = false) :
    hostOp (.waitIdle .ch2) s = .next (returned (statusWord s) s) := by
  have status : hostBus (encode .rdStatus) s = .next (returned (statusWord s) s) :=
    (hostBus_of_decode (decodeOfEncode .rdStatus rfl) s).trans (exec_read (r := .status) rfl s)
  obtain ⟨_, _, busy, _⟩ := statusWord_fields s
  have seen : idleSeen .ch2 (statusWord s) = true := by
    rw [idleSeen, Chan.index, busy, h]
    rfl
  simp only [hostOp, hostPoll, status, returned_resp, seen, if_true]

theorem run_wait (h : Ctrl.busy d.ctrl = false) : ∃ y, ∀ k,
    core.run (k + 1) (later j d (.host :: turns) (.waitIdle .ch2 :: ops) x s) =
      core.run k (later (j + 1) d turns ops y s) :=
  ⟨_, fun _ => run_op (hostOp_waitIdle (s := later j d turns ops x s) h)⟩

/-! ### The procedure of a transfer -/

variable {count ctrl : Word} {value : Byte}

/-- Channel 2 is idle and without error, so that the procedure with this CTRL can use it. -/
structure ReadyFor (ctrl : Word) (d : Channel) : Prop where
  idle : Ctrl.busy d.ctrl = false
  noError : Ctrl.err d.ctrl = false
  moves : MovesBytes ctrl

/-- The channel after the procedure's four writes (43_memory_transfer.md R221, R222). -/
def setUp (src dest count ctrl : Word) (d : Channel) : Channel :=
  { d with readAddr := src, writeAddr := dest, tcReload := count, ctrl := Ctrl.written d.ctrl ctrl }

theorem ReadyFor.idle_setUp (h : ReadyFor ctrl d) : Ctrl.busy (Ctrl.written d.ctrl ctrl) = false :=
  (busy_written _ _).trans h.idle

theorem ReadyFor.noError_setUp (h : ReadyFor ctrl d) : Ctrl.err (Ctrl.written d.ctrl ctrl) = false :=
  (err_written _ _).trans h.noError

theorem wrMultiTrig_ch2 (s : State) : wrMultiTrig 0x4#32 s = trigger .ch2 s := by simp [wrMultiTrig, triggerIf]

/-- The procedure up to its trigger, whatever the trigger does to channel 2. -/
theorem run_setUp (hs : s.sched = List.replicate 5 Agent.host ++ turns)
    (hq : s.hostQ = transferProc src dest count ctrl ++ ops)
    (ht : ∀ x, trigger .ch2 (later 4 (setUp src dest count ctrl s.ch2) turns (.waitIdle .ch2 :: ops) x s) =
      later 4 d turns (.waitIdle .ch2 :: ops) x s) :
    core.run 5 s = .next (later 5 d turns (.waitIdle .ch2 :: ops) .ack s) :=
  calc core.run 5 s
    _ = core.run 5 (later 0 s.ch2 _ _ _ s) := congrArg _ (eq_later hs hq)
    _ = core.run 4 (later 1 { s.ch2 with readAddr := src } _ _ _ s) := run_write rfl
    _ = core.run 3 (later 2 { s.ch2 with readAddr := src, writeAddr := dest } _ _ _ s) := run_write rfl
    _ = core.run 2 (later 3 { s.ch2 with readAddr := src, writeAddr := dest, tcReload := count } _ _ _ s) :=
      run_write rfl
    _ = core.run 1 (later 4 (setUp src dest count ctrl s.ch2) _ _ _ s) := run_write rfl
    _ = core.run 0 _ := run_write ((wrMultiTrig_ch2 _).trans (ht _))

/-- The channel after a trigger with count 0 (41_transfer_engine.md R174). -/
def nothingMoved (src dest ctrl : Word) (d : Channel) : Channel :=
  { setUp src dest 0#32 ctrl d with tcRemain := 0#32 }

/-- The procedure with count 0 (43_memory_transfer.md R225). -/
theorem run_nothing (h : ReadyFor ctrl s.ch2) (hs : s.sched = List.replicate 5 Agent.host ++ .host :: turns)
    (hq : s.hostQ = transferProc src dest 0#32 ctrl ++ ops) :
    ∃ y, core.run 6 s = .next (later 6 (nothingMoved src dest ctrl s.ch2) turns ops y s) := by
  have written := h.moves.written h.idle
  have start : core.run 5 s =
      .next (later 5 (nothingMoved src dest ctrl s.ch2) (.host :: turns) (.waitIdle .ch2 :: ops) .ack s) :=
    run_setUp hs hq fun _ =>
      trigger_of_zeroCount h.idle_setUp h.noError_setUp written.enabled written.configLegal rfl
  obtain ⟨y, waits⟩ := run_wait (d := nothingMoved src dest ctrl s.ch2) h.idle_setUp
  exact ⟨y, (run_add (k := 1) start).trans (waits 0)⟩

/-- The channel after a trigger that starts it (41_transfer_engine.md R173). -/
def started (src dest count ctrl : Word) (d : Channel) : Channel :=
  { setUp src dest count ctrl d with
    tcRemain := count, phase := .read, ctrl := Ctrl.putBusy true (Ctrl.written d.ctrl ctrl) }

theorem run_start (h : ReadyFor ctrl s.ch2) (hcount : count ≠ 0#32) (hs : s.sched = List.replicate 5 Agent.host ++ turns)
    (hq : s.hostQ = transferProc src dest count ctrl ++ ops) :
    core.run 5 s = .next (later 5 (started src dest count ctrl s.ch2) turns (.waitIdle .ch2 :: ops) .ack s) := by
  have written := h.moves.written h.idle
  exact run_setUp hs hq fun _ =>
    trigger_of_startable ⟨h.idle_setUp, h.noError_setUp, written.enabled, written.configLegal, hcount⟩

theorem ReadyFor.incrRead_started (h : ReadyFor ctrl d) :
    Ctrl.incrRead (started src dest count ctrl d).ctrl = Ctrl.incrRead ctrl :=
  (incrRead_putBusy _ _).trans (incrRead_written_of_idle ctrl h.idle)

theorem ReadyFor.transferAt_started (h : ReadyFor ctrl s.ch2)
    (hd : Delivers s.params s.mem (Ctrl.incrRead ctrl) src dest bytes) :
    TransferAt (later 5 (started src dest count ctrl s.ch2) turns ops x s) bytes where
  busy := busy_putBusy _ _
  ctrl := (h.moves.written h.idle).putBusy true
  phase := rfl
  delivers := by
    rw [← h.incrRead_started (src := src) (dest := dest) (count := count)] at hd
    exact hd

/-! ### A whole transfer -/

theorem putBusy_false_of_idle (h : Ctrl.busy c = false) : Ctrl.putBusy false c = c := h ▸ putBit_self 24 c

/-- The channel after a whole transfer (43_memory_transfer.md R223). -/
def transferred (src dest count ctrl x : Word) (d : Channel) : Channel :=
  { setUp src dest count ctrl d with
    readAddr := if Ctrl.incrRead ctrl then src + count else src
    writeAddr := dest + count, tcRemain := 0#32, phase := .read, hold := x }

theorem ReadyFor.moved_started {y : Word} (h : ReadyFor ctrl s.ch2) (hlen : count.toNat = bytes.length) :
    (moved bytes y rest (later 5 (started src dest count ctrl s.ch2) turns ops x s)).modCtrl .ch2 (Ctrl.putBusy false) =
      later (5 + 2 * bytes.length) (transferred src dest count ctrl y s.ch2) rest ops x
        (withMem (s.mem.writeBytes dest bytes) s) := by
  have whole : BitVec.ofNat 32 bytes.length = count := by rw [← hlen, BitVec.ofNat_toNat, BitVec.setWidth_eq]
  have idle : Ctrl.putBusy false (started src dest count ctrl s.ch2).ctrl = Ctrl.written s.ch2.ctrl ctrl :=
    (putBusy_putBusy _ _ _).trans (putBusy_false_of_idle h.idle_setUp)
  simp only [moved, later, withMem, State.modCtrl, State.setCh, State.ch_ch2, sourceAt, addrAt, whole, h.incrRead_started,
    idle, Nat.add_assoc]
  simp only [started, transferred, setUp, BitVec.sub_self] <;> rfl

/-- The procedure with a count other than 0, its transfer uninterrupted. -/
theorem run_transfer (h : ReadyFor ctrl s.ch2) (hcount : count ≠ 0#32) (hlen : count.toNat = bytes.length)
    (hd : Delivers s.params s.mem (Ctrl.incrRead ctrl) src dest bytes)
    (hs : s.sched = List.replicate 5 Agent.host ++ (List.replicate (2 * bytes.length) (Agent.chan .ch2) ++ .host :: turns))
    (hq : s.hostQ = transferProc src dest count ctrl ++ ops) :
    ∃ b ∈ bytes, ∃ y, core.run (5 + (2 * bytes.length + 1)) s = .next
      (later (5 + (2 * bytes.length + 1)) (transferred src dest count ctrl (0#24 ++ b) s.ch2) turns ops y
        (withMem (s.mem.writeBytes dest bytes) s)) := by
  have hne : bytes ≠ [] := by
    rintro rfl
    exact hcount (BitVec.eq_of_toNat_eq hlen)
  have start := run_start h hcount hs hq
  obtain ⟨b, hb, whole⟩ := (h.transferAt_started hd).run_whole hne hlen rfl
  rw [h.moved_started hlen] at whole
  obtain ⟨y, waits⟩ := run_wait (d := transferred src dest count ctrl (0#24 ++ b) s.ch2) h.idle_setUp
  exact ⟨b, hb, y, (run_add start).trans ((run_add whole).trans (waits 0))⟩

/-! ### Copies -/

theorem written_ctrlCopy (h : Ctrl.busy c = false) :
    Ctrl.written c ctrlCopy = (c &&& ~~~0x0000373D#32) ||| 0x00000231#32 := written_of_idle _ h

/-- The first wait of a procedure (43_memory_transfer.md R221, R222). -/
theorem run_firstWait (hidle : Ctrl.busy s.ch2.ctrl = false) (hs : s.sched = .host :: turns)
    (hq : s.hostQ = .waitIdle .ch2 :: ops) : ∃ y, core.run 1 s = .next (later 1 s.ch2 turns ops y s) := by
  obtain ⟨y, waits⟩ := run_wait (j := 0) (turns := turns) (ops := ops) (x := s.resp) (s := s) hidle
  exact ⟨y, (congrArg _ (eq_later hs hq)).trans (waits 0)⟩

/-- Settles O52: the first wait, and the procedure with count 0. -/
theorem copyOfNothing : Obligations.CopyOfNothing := by
  intro s dest src rest hidle herr hq hs
  obtain ⟨x, waits⟩ := run_firstWait hidle hs hq
  obtain ⟨y, transfer⟩ := run_nothing (s := later 1 s.ch2 _ _ x s) (turns := [])
    ⟨hidle, herr, movesBytes_ctrlCopy⟩ rfl rfl
  refine ⟨_, (run_add (k := 6) waits).trans transfer, ?_⟩
  rw [← written_ctrlCopy hidle]
  rfl

/-- Settles O51: the first wait, and the transfer of the bytes a copy moves. -/
theorem copyResult : Obligations.CopyResult := by
  intro s dest src count rest hidle herr hcount hsrc hdest hsaved hq hs
  rw [List.append_assoc] at hs
  choose! b hb using hsaved
  have hlen : count.toNat = (copied b (dest - src).toNat count.toNat).length := (length_copied ..).symm
  obtain ⟨x, waits⟩ := run_firstWait hidle hs hq
  obtain ⟨_, _, y, transfer⟩ := run_transfer (s := later 1 s.ch2 _ _ x s) (turns := [])
    ⟨hidle, herr, movesBytes_ctrlCopy⟩ hcount hlen (delivers_copy hsrc hdest hb count.isLt) (by rw [← hlen]; rfl) rfl
  rw [← hlen] at transfer
  have run := (run_add waits).trans transfer
  rw [show 2 * count.toNat + 7 = 1 + (5 + (2 * count.toNat + 1)) by omega]
  refine ⟨_, run, fun i hi => ?moved, fun x hx => ?kept, ?frame⟩
  case moved =>
    have written := Memory.read_writeBytes s.mem dest _ i (hlen ▸ hi) (hlen ▸ count.isLt.le)
    rw [getElem_copied] at written
    exact written.trans (hb _ ((Nat.mod_le _ _).trans_lt hi)).symm
  case kept => exact Memory.read_writeBytes_of_ne s.mem dest _ x (by rwa [← hlen])
  case frame =>
    rw [← written_ctrlCopy hidle, ← Nat.add_assoc s.stepNo]
    rfl

/-! ### Fills -/

theorem written_ctrlFill (h : Ctrl.busy c = false) :
    Ctrl.written c ctrlFill = (c &&& ~~~0x0000373D#32) ||| 0x00000221#32 := written_of_idle _ h

/-- A fill's wait and its store of the value to a mapped source (43_memory_transfer.md R221). -/
theorem run_fillStart (hidle : Ctrl.busy s.ch2.ctrl = false) (hsrc : isMemory s.params src = true)
    (hs : s.sched = .host :: .host :: turns) (hq : s.hostQ = fillProc dest value count src ++ ops) :
    core.run 2 s = .next (later 2 s.ch2 turns (transferProc src dest count ctrlFill ++ ops) .ack
      (withMem (s.mem.write src.toNat value) s)) := by
  obtain ⟨x, waits⟩ := run_firstWait hidle hs hq
  have stores := hostOp_store_byte (s := later 1 s.ch2 turns (transferProc src dest count ctrlFill ++ ops) x s)
    (value.setWidth 32) hsrc
  rw [setWidth_byte, extractLsb_append_byte, ← setWidth_byte] at stores
  exact (run_add (k := 1) waits).trans (run_op stores)

/-- A fill's wait and its store of the value to an unmapped source (92_eei_decisions.md D6). -/
theorem run_fillStart_unmapped (hidle : Ctrl.busy s.ch2.ctrl = false) (hwin : inWindow s.params src = false)
    (hmap : memMapped s.params src = false) (hs : s.sched = .host :: .host :: turns)
    (hq : s.hostQ = fillProc dest value count src ++ ops) :
    ∃ kind, core.run 2 s = .next (later 2 s.ch2 turns (transferProc src dest count ctrlFill ++ ops) (.hostFault kind)
      (recorded [.hostFault kind none] s)) := by
  obtain ⟨x, waits⟩ := run_firstWait hidle hs hq
  obtain ⟨kind, stores⟩ := hostOp_store_byte_unmapped
    (s := later 1 s.ch2 turns (transferProc src dest count ctrlFill ++ ops) x s) (value.setWidth 32) hwin hmap
  exact ⟨kind, (run_add (k := 1) waits).trans (run_op stores)⟩

/-- What a fill of `n` bytes leaves in memory (43_memory_transfer.md R221). -/
theorem filled_memory {n : Nat} (m : Memory) (dest src : Addr) (value : Byte) (hn : n ≤ 2 ^ 32) :
    let filled := (m.write src.toNat value).writeBytes dest (List.replicate n value)
    (∀ i, i < n → filled.read? (addrAt dest i).toNat = some value) ∧ filled.read? src.toNat = some value ∧
    (∀ x : Nat, x ≠ src.toNat → (∀ i, i < n → x ≠ (addrAt dest i).toNat) → filled.read? x = m.read? x) := by
  have len : (List.replicate n value).length = n := List.length_replicate
  refine ⟨fun i hi => ?_, Memory.read_writeBytes_replicate dest (Memory.read_write_same _ _ _) hn, fun x hx hx' => ?_⟩
  · have written := Memory.read_writeBytes (m.write src.toNat value) dest (List.replicate n value) i (by rwa [len])
      (by rwa [len])
    rwa [List.getElem_replicate] at written
  · exact (Memory.read_writeBytes_of_ne _ dest _ x (by rwa [len])).trans (Memory.read_write_of_ne _ _ hx)

/-- Settles O50: the store of the value, and the transfer of it to every destination byte. -/
theorem fillResult : Obligations.FillResult := by
  intro s dest src value count rest hidle herr hcount hsrc hdest hq hs
  rw [List.append_assoc] at hs
  have hlen : count.toNat = (List.replicate count.toNat value).length := List.length_replicate.symm
  have delivers := delivers_fill hsrc hdest (Memory.read_write_same s.mem src.toNat value) count.isLt.le
  obtain ⟨b, hb, y, transfer⟩ := run_transfer (s := later 2 s.ch2 _ _ .ack (withMem (s.mem.write src.toNat value) s))
    (turns := []) ⟨hidle, herr, movesBytes_ctrlFill⟩ hcount hlen delivers (by rw [← hlen]; rfl) rfl
  rw [List.eq_of_mem_replicate hb, ← hlen] at transfer
  have run := (run_add (run_fillStart hidle hsrc hs hq)).trans transfer
  obtain ⟨written, source, kept⟩ := filled_memory s.mem dest src value count.isLt.le
  rw [show 2 * count.toNat + 8 = 2 + (5 + (2 * count.toNat + 1)) by omega]
  refine ⟨_, run, written, source, kept, ?_⟩
  rw [setWidth_byte, ← written_ctrlFill hidle, ← Nat.add_assoc s.stepNo]
  simp only [later, withMem, transferred, setUp] <;> rfl

/-! ### Transfers that fail -/

/-- A start followed by a failing write adds WRITE_ERR to an idle channel's CTRL. -/
theorem putBusy_setWriteErr_putBusy (h : Ctrl.busy c = false) :
    Ctrl.putBusy false (Ctrl.setWriteErr (Ctrl.putBusy true c)) = c ||| 0x80000000#32 := by
  have commute : Ctrl.setWriteErr (Ctrl.putBusy true c) = Ctrl.putBusy true (Ctrl.setWriteErr c) := by
    apply BitVec.eq_of_getLsbD_eq
    intro i _
    simp only [Ctrl.setWriteErr, Ctrl.putBusy, getLsbD_putBit]
    split_ifs <;> rfl
  rw [commute, putBusy_putBusy, putBusy_false_of_idle ((busy_setWriteErr c).trans h)]
  rfl

/-- The channel after a first read that fails (41_transfer_engine.md R178). -/
def readFailedAt (src dest count ctrl : Word) (d : Channel) : Channel :=
  { setUp src dest count ctrl d with
    tcRemain := count, phase := .read, ctrl := Ctrl.written d.ctrl ctrl ||| 0x40000000#32 }

theorem ReadyFor.idle_readFailed (h : ReadyFor ctrl d) :
    Ctrl.busy (Ctrl.written d.ctrl ctrl ||| 0x40000000#32) = false := by
  rw [← putBusy_setReadErr_putBusy h.idle_setUp]
  exact busy_putBusy _ _

theorem ReadyFor.readFailed_started (h : ReadyFor ctrl s.ch2) :
    readFailed .ch2 (later 5 (started src dest count ctrl s.ch2) (.chan .ch2 :: turns) ops x s) =
      later 6 (readFailedAt src dest count ctrl s.ch2) turns ops x (recorded [.readErr .ch2 src] s) := by
  rw [readFailedAt, ← putBusy_setReadErr_putBusy h.idle_setUp]
  rfl

/-- The procedure with an unmapped source. -/
theorem run_readFails (h : ReadyFor ctrl s.ch2) (hcount : count ≠ 0#32) (hwin : inWindow s.params src = false)
    (hmap : memMapped s.params src = false) (hs : s.sched = List.replicate 5 Agent.host ++ .chan .ch2 :: .host :: turns)
    (hq : s.hostQ = transferProc src dest count ctrl ++ ops) :
    ∃ y, core.run 7 s = .next
      (later 7 (readFailedAt src dest count ctrl s.ch2) turns ops y (recorded [.readErr .ch2 src] s)) := by
  have start := run_start h hcount hs hq
  have moves : MovesBytes (started src dest count ctrl s.ch2).ctrl := (h.moves.written h.idle).putBusy true
  have fails := step_of_readFault (n := .ch2) (sz := .byte)
    (s := later 5 (started src dest count ctrl s.ch2) (.chan .ch2 :: .host :: turns) (.waitIdle .ch2 :: ops) .ack s)
    rfl (moves.chEnabled (busy_putBusy _ _)) rfl moves.size moves.chainTo_le
    (.inr (busRead_byte_unmapped (a := src) hwin hmap))
  rw [h.readFailed_started] at fails
  obtain ⟨y, waits⟩ := run_wait (d := readFailedAt src dest count ctrl s.ch2) h.idle_readFailed
  exact ⟨y, (run_add (k := 2) start).trans ((run_succ fails).trans (waits 0))⟩

/-- The channel after a write that fails behind `n` elements (41_transfer_engine.md R179). -/
def writeFailedAt (n : Nat) (src dest count ctrl x : Word) (d : Channel) : Channel :=
  { setUp src dest count ctrl d with
    readAddr := sourceAt (Ctrl.incrRead ctrl) src n, writeAddr := addrAt dest n
    tcRemain := count - BitVec.ofNat 32 n, phase := .write, hold := x
    ctrl := Ctrl.written d.ctrl ctrl ||| 0x80000000#32 }

theorem ReadyFor.idle_writeFailed (h : ReadyFor ctrl d) :
    Ctrl.busy (Ctrl.written d.ctrl ctrl ||| 0x80000000#32) = false := by
  rw [← putBusy_setWriteErr_putBusy h.idle_setUp]
  exact busy_putBusy _ _

theorem ReadyFor.writeFailed_started (h : ReadyFor ctrl s.ch2) (y : Word) :
    writeFailed .ch2 (holding b (moved bytes y (.chan .ch2 :: .chan .ch2 :: rest)
        (later 5 (started src dest count ctrl s.ch2) turns ops x s))) =
      later (5 + (2 * bytes.length + 2)) (writeFailedAt bytes.length src dest count ctrl (0#24 ++ b) s.ch2) rest ops x
        (withMem (s.mem.writeBytes dest bytes) (recorded [.writeErr .ch2 (addrAt dest bytes.length)] s)) := by
  rw [writeFailedAt, ← putBusy_setWriteErr_putBusy h.idle_setUp,
    ← h.incrRead_started (src := src) (dest := dest) (count := count)]
  simp only [later, ← Nat.add_assoc] <;> rfl

/-- The procedure, mapped up to a destination byte that is not. -/
theorem run_writeFails (h : ReadyFor ctrl s.ch2) (hmore : bytes.length < count.toNat)
    (hd : Delivers s.params s.mem (Ctrl.incrRead ctrl) src dest bytes)
    (hsrc : isMemory s.params (sourceAt (Ctrl.incrRead ctrl) src bytes.length) = true)
    (hstored : (s.mem.writeBytes dest bytes).read? (sourceAt (Ctrl.incrRead ctrl) src bytes.length).toNat = some b)
    (hwin : inWindow s.params (addrAt dest bytes.length) = false)
    (hmap : memMapped s.params (addrAt dest bytes.length) = false)
    (hs : s.sched = List.replicate 5 Agent.host ++
      (List.replicate (2 * bytes.length) (Agent.chan .ch2) ++ .chan .ch2 :: .chan .ch2 :: .host :: turns))
    (hq : s.hostQ = transferProc src dest count ctrl ++ ops) :
    ∃ y, core.run (5 + (2 * bytes.length + 3)) s = .next
      (later (5 + (2 * bytes.length + 3)) (writeFailedAt bytes.length src dest count ctrl (0#24 ++ b) s.ch2) turns ops y
        (withMem (s.mem.writeBytes dest bytes) (recorded [.writeErr .ch2 (addrAt dest bytes.length)] s))) := by
  have hcount : count ≠ 0#32 := by
    rintro rfl
    exact absurd hmore (Nat.not_lt_zero _)
  have start := run_start h hcount hs hq
  have begun : TransferAt (later 5 (started src dest count ctrl s.ch2)
      (List.replicate (2 * bytes.length) (Agent.chan .ch2) ++ .chan .ch2 :: .chan .ch2 :: .host :: turns)
      (.waitIdle .ch2 :: ops) .ack s) (bytes ++ []) :=
    h.transferAt_started ((List.append_nil bytes).symm ▸ hd)
  obtain ⟨x, moves⟩ := begun.run hmore rfl
  rw [← h.incrRead_started (src := src) (dest := dest) (count := count)] at hsrc hstored
  have fails := (begun.drop x _).run_writeFault (rest := .host :: turns) hsrc hstored hwin hmap rfl
  rw [h.writeFailed_started] at fails
  obtain ⟨y, waits⟩ := run_wait (d := writeFailedAt bytes.length src dest count ctrl (0#24 ++ b) s.ch2) h.idle_writeFailed
  exact ⟨y, (run_add start).trans ((run_add moves).trans ((run_add (k := 1) fails).trans (waits 0)))⟩

/-- Settles O60: each case by its start, mapped or not, and by the procedure that moves nothing or fails. -/
theorem fillOfNothingOrFailing : Obligations.FillOfNothingOrFailing := by
  intro s dest src value count rest c ctrl hidle herr hq
  have ready : ReadyFor ctrlFill c := ⟨hidle, herr, movesBytes_ctrlFill⟩
  have hctrl : ctrl = Ctrl.written c.ctrl ctrlFill := (written_ctrlFill hidle).symm
  have stored : (s.mem.write src.toNat value).read? src.toNat = some value := Memory.read_write_same _ _ _
  refine ⟨?nothing, ?unmappedSource, ?unmappedByte⟩
  case nothing =>
    rintro rfl hsrc hs
    have first := run_fillStart hidle hsrc hs hq
    obtain ⟨y, nothing⟩ := run_nothing (s := later 2 c _ _ .ack (withMem (s.mem.write src.toNat value) s)) (turns := [])
      ready rfl rfl
    have run := (run_add (k := 6) first).trans nothing
    refine ⟨_, run, stored, fun x hx => Memory.read_write_of_ne _ _ hx, ?_⟩
    rw [hctrl]
    simp only [later, withMem, nothingMoved, setUp] <;> rfl
  case unmappedSource =>
    intro hcount hwin hmap hs
    obtain ⟨kind, first⟩ := run_fillStart_unmapped hidle hwin hmap hs hq
    obtain ⟨y, fails⟩ := run_readFails (s := later 2 c _ _ (.hostFault kind) (recorded [.hostFault kind none] s))
      (turns := []) ready hcount hwin hmap rfl rfl
    have run := (run_add (k := 7) first).trans fails
    refine ⟨_, kind, run, ?_⟩
    rw [hctrl, List.append_cons s.faults]
    simp only [later, recorded, readFailedAt, setUp] <;> rfl
  case unmappedByte =>
    intro k hk hsrc hdest hwin hmap hs
    have hlt : k < 2 ^ 32 := hk.trans count.isLt
    have hlen : (List.replicate k value).length = k := List.length_replicate
    have hturns : s.sched = .host :: .host :: (List.replicate 5 Agent.host ++
        (List.replicate (2 * k) (Agent.chan .ch2) ++ [Agent.chan .ch2, .chan .ch2, .host])) := by
      rw [hs, Nat.mul_succ, List.replicate_add, List.append_assoc, List.append_assoc]
      rfl
    have fixed : sourceAt (Ctrl.incrRead ctrlFill) src k = src := rfl
    have first := run_fillStart hidle hsrc hturns hq
    obtain ⟨y, fails⟩ := run_writeFails (s := later 2 c _ _ .ack (withMem (s.mem.write src.toNat value) s))
      (turns := []) (bytes := List.replicate k value) (b := value) ready (hlen.symm ▸ hk)
      (delivers_fill hsrc hdest stored hlt.le) (by rwa [hlen, fixed])
      (by rw [hlen, fixed]; exact Memory.read_writeBytes_replicate dest stored hlt.le)
      (hlen.symm ▸ hwin) (hlen.symm ▸ hmap) (by rw [hlen]; rfl) rfl
    rw [hlen] at fails
    have run := (run_add first).trans fails
    obtain ⟨written, source, kept⟩ := filled_memory s.mem dest src value hlt.le
    rw [show 2 * k + 10 = 2 + (5 + (2 * k + 3)) by omega]
    refine ⟨_, run, written, source, kept, ?_⟩
    rw [setWidth_byte, hctrl, ← Nat.add_assoc s.stepNo]
    simp only [later, writeFailedAt, setUp, withMem, recorded, fixed] <;> rfl

end Sys2Proof.Machine
end

section
/-! # The timing generators (44_timing_generators.md)

A write of GEN_ENABLE as one update of the state, and the EN_STEP it records; what every step keeps of a latched or
loaded generator; the pushes to the queues; the fields of GEN_STATUS; IMEM_USED; and the generators' own turns. -/

namespace Sys2Proof.Machine

variable {s t u : State}

/-! ### Writes of GEN_ENABLE -/

/-- The reserved bits of the value enable no generator (10_state.md R50). -/
@[simp] theorem enableRises_mask (old v : Word) (g : Gen) :
    enableRises old (v &&& genEnableMask) g = enableRises old v g := by
  cases g <;> simp [enableRises, genEnableMask, Gen.index]

/-- R241's condition for a NOPROG entry: the generator's enable rises while its program is not loaded. -/
def noprogDue (old new : Word) (s : State) (g : Gen) : Bool := enableRises old new g && !(s.gen g).loaded

theorem noprogCheck_of_due {old new : Word} {g : Gen} (h : noprogDue old new s g = true) :
    noprogCheck old new g s = { s with noprogErr := true, faults := s.faults ++ [.noprog g] } :=
  if_pos (by simpa [noprogDue] using h)

theorem noprogCheck_of_not_due {old new : Word} {g : Gen} (h : noprogDue old new s g = false) :
    noprogCheck old new g s = s :=
  if_neg (by simpa [noprogDue] using h)

/-- A check changes no program, so the checks do not depend on each other. -/
@[simp] theorem noprogDue_noprogCheck (old new : Word) (g : Gen) (s : State) :
    noprogDue old new (noprogCheck old new g s) = noprogDue old new s := by
  funext k
  simp [noprogDue]

/-- The NOPROG checks of a list of generators, in its order: one entry for each that is due (R241). -/
theorem foldl_noprogCheck (old new : Word) (gs : List Gen) (s : State) :
    gs.foldl (fun t g => noprogCheck old new g t) s = { s with
      noprogErr := s.noprogErr || decide (gs.filter (noprogDue old new s) ≠ [])
      faults := s.faults ++ (gs.filter (noprogDue old new s)).map .noprog } := by
  induction gs generalizing s with
  | nil => simp
  | cons g gs ih =>
    rw [List.foldl_cons, ih, noprogDue_noprogCheck]
    cases hd : noprogDue old new s g with
    | true => simp [noprogCheck_of_due hd, List.filter_cons_of_pos hd]
    | false => simp [noprogCheck_of_not_due hd, hd]

/-- Generator `g` after R241's record of EN_STEP. -/
def enableMarked (old new : Word) (s : State) (g : Gen) : Generator :=
  if enableRises old new g then { s.gen g with enStep := some s.stepNo } else s.gen g

theorem markEnabled_eq_setGen (old new : Word) (g : Gen) (s : State) :
    markEnabled old new g s = s.setGen g (enableMarked old new s g) := by
  unfold markEnabled enableMarked
  split
  · rfl
  · cases g <;> rfl

/-- The three records of EN_STEP are one update, each generator's from its own state and the one step index. -/
theorem markEnabled_all (old new : Word) (s : State) :
    markEnabled old new .p (markEnabled old new .v (markEnabled old new .h s)) = { s with
      genH := enableMarked old new s .h
      genV := enableMarked old new s .v
      genP := enableMarked old new s .p } := by
  simp only [markEnabled_eq_setGen]
  rfl

/-- Settles O18: the checks are the fold over H, V, P, which changes no generator, and the records of EN_STEP follow it. -/
theorem writeGenEnable : Obligations.WriteGenEnable := by
  intro s v rises noprog mark
  have hnoprog : noprogDue s.genEnable (v &&& genEnableMask) s = fun g => rises g && !(s.gen g).loaded := by
    funext g
    exact congrArg (· && _) (enableRises_mask s.genEnable v g)
  have hmark : enableMarked s.genEnable (v &&& genEnableMask) s = mark := by
    funext g
    simp only [enableMarked, enableRises_mask]
    rfl
  have checks := foldl_noprogCheck s.genEnable (v &&& genEnableMask) [.h, .v, .p] s
  rw [hnoprog] at checks
  simp only [List.foldl_cons, List.foldl_nil] at checks
  show Host.Outcome.next (acked (wrGenEnable v s)) = _
  rw [wrGenEnable, markEnabled_all, checks, ← hmark]
  rfl

/-! ### EN_STEP -/

/-- A generator whose enable rises records the write's step (R241). -/
theorem wrGenEnable_enStep {v : Word} {g : Gen} (h : enableRises s.genEnable v g = true) :
    ((wrGenEnable v s).gen g).enStep = some s.stepNo := by
  rw [wrGenEnable_gen, enableRises_mask, if_pos h]

theorem exec_wrGenEnable_enStep {v : Word} {g : Gen} (he : exec (.wrGenEnable v) s = .next t)
    (h : enableRises s.genEnable v g = true) : (t.gen g).enStep = some s.stepNo := by
  cases he
  rw [acked_gen]
  exact wrGenEnable_enStep h

/-- The value the enable phase writes raises every generator's enable when none was enabled (45_startup_sequencer.md R297). -/
theorem enableRises_all (g : Gen) : enableRises 0#32 0x00000007#32 g = true := by cases g <;> decide

/-- Settles O19: every enable that rises in a step records that step's index. -/
theorem synchronisedStart : Obligations.SynchronisedStart := by
  refine ⟨?oneWrite, ?twoWrites, ?sequencer⟩
  case oneWrite =>
    intro s t v g k he hg hk
    have hgs := exec_wrGenEnable_enStep he hg
    exact ⟨hgs.trans (exec_wrGenEnable_enStep he hk).symm, hgs⟩
  case twoWrites =>
    intro s s' t t' v v' g k he he' hne hg hk
    rw [exec_wrGenEnable_enStep he hg, exec_wrGenEnable_enStep he' hk]
    exact fun e => hne (Option.some.inj e)
  case sequencer =>
    intro s t hturn hphase hnone hstep
    obtain ⟨w, hw, rfl⟩ := step_next hstep
    have turn : w = seqEnable (takeTurn s) := by
      rw [hturn] at hw
      cases hw
      simp [seqStep, hphase]
    have marked (g : Gen) : ((wrGenEnable 0x00000007#32 (takeTurn s)).gen g).enStep = some s.stepNo :=
      wrGenEnable_enStep (s := takeTurn s) (by simpa [hnone] using enableRises_all g)
    rw [turn]
    exact ⟨wrGenEnable_genEnable _ _, marked .h, marked .v, marked .p⟩

/-! ### When a generator has a step -/

/-- The latch's enabling condition (R250). -/
theorem latchEnabled_iff {g : Gen} : latchEnabled g s = true ↔
    s.genEnable.getLsbD g.index = true ∧ (s.gen g).loaded = true ∧ (s.gen g).latched = false ∧ (s.gen g).paramQ ≠ [] := by
  simp [latchEnabled, genEnabled, List.length_pos_iff, and_assoc]

/-- The pixel pop's enabling condition (R252). -/
theorem pixPopEnabled_iff : pixPopEnabled s = true ↔
    s.genEnable.getLsbD 2 = true ∧ s.genP.loaded = true ∧ s.genP.latched = true ∧ s.pixQ ≠ [] := by
  simp [pixPopEnabled, genEnabled, Gen.index, List.length_pos_iff, and_assoc]

/-! ### What every step keeps of a generator -/

/-- From `x` to `y` a generator keeps its latch and its program: once latched it stays so with the same value and nothing
leaves its queue, and once loaded it stays so (R261). -/
structure LatchKept (x y : Generator) : Prop where
  latched : x.latched = true →
    y.latched = true ∧ y.cntLoad = x.cntLoad ∧ ∃ new : List Word, y.paramQ = x.paramQ ++ new
  loaded : x.loaded = true → y.loaded = true

theorem LatchKept.refl (x : Generator) : LatchKept x x := ⟨fun h => ⟨h, rfl, [], (List.append_nil _).symm⟩, id⟩

theorem LatchKept.trans {x y z : Generator} (h : LatchKept x y) (h' : LatchKept y z) : LatchKept x z where
  latched hx := by
    obtain ⟨hy, hcnt, new, hq⟩ := h.latched hx
    obtain ⟨hz, hcnt', new', hq'⟩ := h'.latched hy
    exact ⟨hz, hcnt'.trans hcnt, new ++ new', by rw [hq', hq, List.append_assoc]⟩
  loaded hx := h'.loaded (h.loaded hx)

/-- Every generator keeps its latch and its program. -/
def GensKept (s t : State) : Prop := ∀ g, LatchKept (s.gen g) (t.gen g)

theorem GensKept.refl (s : State) : GensKept s s := fun _ => .refl _

theorem GensKept.trans (h : GensKept s t) (h' : GensKept t u) : GensKept s u := fun g => (h g).trans (h' g)

theorem GensKept.of_same (hh : t.genH = s.genH) (hv : t.genV = s.genV) (hp : t.genP = s.genP) : GensKept s t
  | .h => by rw [State.gen_h, State.gen_h, hh]; exact .refl _
  | .v => by rw [State.gen_v, State.gen_v, hv]; exact .refl _
  | .p => by rw [State.gen_p, State.gen_p, hp]; exact .refl _

theorem gensKept_setGen {g : Gen} {x : Generator} (h : LatchKept (s.gen g) x) : GensKept s (s.setGen g x) := by
  intro k
  rw [State.setGen_gen]
  split
  · next e => rwa [e]
  · exact .refl _

theorem gensKept_wrGenEnable (v : Word) (s : State) : GensKept s (wrGenEnable v s) := by
  intro g
  rw [wrGenEnable_gen]
  split
  · exact { LatchKept.refl (s.gen g) with }
  · exact .refl _

/-- A pushed parameter goes behind those that stand in the queue (R244). -/
theorem gensKept_wrGenParam (g : Gen) (v : Word) (s : State) : GensKept s (wrGenParam g v s) := by
  unfold wrGenParam
  split
  · exact gensKept_setGen ⟨fun h => ⟨h, rfl, [v], rfl⟩, id⟩
  · exact .of_same rfl rfl rfl

theorem gensKept_regWrite (r : Reg) (v : Word) (s : State) : GensKept s (regWrite r v s) := by
  cases r with
  | genEnable => exact gensKept_wrGenEnable v s
  | genParam g => exact gensKept_wrGenParam g v s
  | _ =>
    apply GensKept.of_same <;> simp [regWrite, wrStatus, wrResClaim, wrGenStatus, wrSeqStatus]

theorem gensKept_busWrite {a : Addr} {sz : Size} {v : Word} (h : busWrite a sz v s = some t) : GensKept s t := by
  rcases busWrite_cases s h with ⟨r, _, _, rfl⟩ | ⟨_, _, rfl⟩
  · exact gensKept_regWrite r v s
  · exact .of_same rfl rfl rfl

theorem gensKept_hostStep (h : hostStep s = .next t) : GensKept s t := by
  unfold hostStep at h
  split at h
  · cases h
    exact .refl s
  · next op rest _ =>
    obtain ⟨q, _, ⟨r, v, rfl⟩ | ⟨x, rfl⟩ | ⟨k, hdr, rfl⟩ | ⟨a, sz, v, _, _, rfl⟩⟩ := hostOp_next h
    · have written := gensKept_regWrite r v { s with hostQ := rest }
      exact (GensKept.trans (.of_same rfl rfl rfl) written).trans (.of_same rfl rfl rfl)
    · exact .of_same rfl rfl rfl
    · exact .of_same rfl rfl rfl
    · exact .of_same rfl rfl rfl

theorem gensKept_finishElement (n : Chan) (sz : Size) (s : State) : GensKept s (finishElement n sz s) := by
  rw [finishElement_frame]
  exact .of_same rfl rfl rfl

theorem gensKept_chStep {n : Chan} (h : chStep n s = .next t) : GensKept s t := by
  rcases chStep_next h with ⟨_, rfl⟩ | ⟨sz, _, _, _, _, ⟨_, rfl⟩ | ⟨_, rfl⟩⟩
  · exact .refl t
  · rcases chReadPhase_cases n sz s with e | ⟨x, _, _, e⟩ <;> rw [e] <;> exact .of_same rfl rfl rfl
  · rcases chWritePhase_cases n sz s with e | ⟨w, _, hw, e⟩ <;> rw [e]
    · exact .of_same rfl rfl rfl
    · exact (gensKept_busWrite hw).trans (gensKept_finishElement n sz w)

/-- The latch takes a parameter from the queue, but only of a generator that has not latched (R250). -/
theorem gensKept_genLatch {g : Gen} (h : latchEnabled g s = true) : GensKept s (genLatch g s) := by
  obtain ⟨_, _, unlatched, _⟩ := latchEnabled_iff.1 h
  exact gensKept_setGen ⟨fun hl => absurd hl (by simp [unlatched]), id⟩

theorem gensKept_genStep (g : Gen) (s : State) : GensKept s (genStep g s) := by
  rcases genStep_cases g s with ⟨h, e⟩ | ⟨_, _, e⟩ | e <;> rw [e]
  · exact gensKept_genLatch h
  · exact .of_same rfl rfl rfl
  · exact .refl s

theorem gensKept_loadProgram (g : Gen) (s : State) : GensKept s (loadProgram g s) := by
  intro k
  rw [loadProgram_gen]
  split
  · next e =>
    rw [e]
    exact { LatchKept.refl (s.gen g) with loaded := fun _ => rfl }
  · exact .refl _

theorem gensKept_loadPrograms (gs : List Gen) (s : State) : GensKept s (loadPrograms gs s) := by
  induction gs generalizing s with
  | nil => exact .of_same rfl rfl rfl
  | cons g gs ih =>
    unfold loadPrograms
    split
    · exact (gensKept_loadProgram g s).trans (ih _)
    · exact .of_same rfl rfl rfl

/-- The sequencer's phases load programs, push parameters and enable, and take nothing back (45_startup_sequencer.md R291,
R296, R297). -/
theorem gensKept_seqStep (s : State) : GensKept s (seqStep s) := by
  unfold seqStep
  cases s.seqState with
  | load => exact gensKept_loadPrograms _ s
  | assign =>
    simp only [seqAssign]
    split <;> exact .of_same rfl rfl rfl
  | config =>
    simp only [seqConfig]
    split <;> exact .of_same rfl rfl rfl
  | param =>
    have pushes := ((gensKept_wrGenParam .h s.seqParamH s).trans (gensKept_wrGenParam .v s.seqParamV _)).trans
      (gensKept_wrGenParam .p s.seqParamP _)
    exact pushes.trans (.of_same rfl rfl rfl)
  | enable => exact (gensKept_wrGenEnable _ s).trans (.of_same rfl rfl rfl)
  | arm => exact .of_same (trigger_genH s .ch0) (trigger_genV s .ch0) (trigger_genP s .ch0)
  | idle | running | failed => exact .refl s

theorem gensKept_agentStep {a : Agent} (h : agentStep a s = .next t) : GensKept s t := by
  cases a with
  | host => exact gensKept_hostStep h
  | chan n => exact gensKept_chStep h
  | gen g =>
    cases h
    exact gensKept_genStep g s
  | seq =>
    cases h
    exact gensKept_seqStep s

/-- Settles O36: the agent with the turn keeps every generator's latch and program, and taking and counting the turn touch
no generator. -/
theorem latchedOnce : Obligations.LatchedOnce := by
  intro s t g h
  obtain ⟨w, hw, rfl⟩ := step_next h
  have kept : LatchKept (s.gen g) ((countStep w).gen g) := by
    simpa only [takeTurn_gen, countStep_gen] using gensKept_agentStep hw g
  exact ⟨kept.latched, kept.loaded⟩

/-! ### Pushes to the queues -/

/-- Settles O20: each write is its queue's push, and the answer joins either outcome. -/
theorem pushToQueues : Obligations.PushToQueues := by
  intro s v room pixel
  have pixelPushed : acked (wrPixTxf v s) = pixel := apply_ite acked _ _ _
  have paramPushed (g : Gen) : acked (wrGenParam g v s) =
      if room (s.gen g).paramQ then acked (s.setGen g { s.gen g with paramQ := (s.gen g).paramQ ++ [v] })
      else { s with paramOver := true, resp := .ack } := apply_ite acked _ _ _
  exact ⟨congrArg _ (paramPushed .h), congrArg _ (paramPushed .v), congrArg _ (paramPushed .p),
    congrArg _ pixelPushed, congrArg _ pixelPushed, congrArg _ pixelPushed⟩

/-! ### GEN_STATUS -/

/-- The low bits of a length that its field can hold are the length (assumption 18). -/
theorem toNat_ofNat_of_le {n k : Nat} (h : k ≤ 2 ^ n - 1) : (BitVec.ofNat n k).toNat = k := by
  have hpos := Nat.two_pow_pos n
  rw [BitVec.toNat_ofNat, Nat.mod_eq_of_lt (by omega)]

/-- The level fields of GEN_STATUS (10_state.md R54). -/
theorem genStatusWord_pixLevel (s : State) :
    (genStatusWord s).extractLsb' 0 4 = BitVec.ofNat 4 s.pixQ.length :=
  BitVec.extractLsb'_append_eq_right

theorem genStatusWord_paramLevel (s : State) (g : Gen) :
    (genStatusWord s).extractLsb' (16 + 4 * g.index) 3 = BitVec.ofNat 3 (s.gen g).paramQ.length := by
  apply BitVec.eq_of_getLsbD_eq
  intro i hi
  have bit : i = 0 ∨ i = 1 ∨ i = 2 := by omega
  simp only [genStatusWord, BitVec.getLsbD_extractLsb', BitVec.getLsbD_append, BitVec.getLsbD_ofBool, BitVec.getLsbD_zero]
  cases g with
  | h => rcases bit with rfl | rfl | rfl <;> simp [Gen.index]
  | v => rcases bit with rfl | rfl | rfl <;> simp [Gen.index]
  | p => rcases bit with rfl | rfl | rfl <;> simp [Gen.index]

/-- The pixel queue's full bit and the sticky flags (10_state.md R54, R55). -/
theorem genStatusWord_flags (s : State) :
    (genStatusWord s).getLsbD 4 = decide (s.pixQ.length = s.params.pixDepth) ∧
    (genStatusWord s).getLsbD 5 = s.pixTxOver ∧ (genStatusWord s).getLsbD 6 = s.paramOver ∧
    (genStatusWord s).getLsbD 7 = s.noprogErr := by
  simp only [genStatusWord, BitVec.getLsbD_append, BitVec.getLsbD_ofBool, BitVec.getLsbD_zero]
  simp

/-- LATCHED and LOADED of each generator (10_state.md R52, R56). -/
theorem genStatusWord_generator (s : State) (g : Gen) :
    (genStatusWord s).getLsbD (8 + g.index) = (s.gen g).latched ∧
    (genStatusWord s).getLsbD (12 + g.index) = (s.gen g).loaded := by
  simp only [genStatusWord, BitVec.getLsbD_append, BitVec.getLsbD_ofBool, BitVec.getLsbD_zero]
  cases g <;> simp [Gen.index]

/-- The bits between and above the fields of GEN_STATUS are padding (10_state.md R54). -/
theorem genStatusWord_padding {j : Nat} (s : State) (hj : j ∈ [11, 15, 19, 23] ∨ 27 ≤ j) :
    (genStatusWord s).getLsbD j = false := by
  simp only [List.mem_cons, List.not_mem_nil, or_false] at hj
  simp only [genStatusWord, BitVec.getLsbD_append, BitVec.getLsbD_ofBool, BitVec.getLsbD_zero]
  rcases hj with between | above
  · rcases between with rfl | rfl | rfl | rfl <;> simp
  · simp (disch := omega) only [if_neg]

/-- Settles O21: a read of GEN_STATUS returns `genStatusWord`, whose bits are its fields and padding. -/
theorem readGeneratorStatus : Obligations.ReadGeneratorStatus := by
  intro s
  obtain ⟨hfull, hpix, hparam, hnoprog⟩ := genStatusWord_flags s
  refine ⟨rfl, genStatusWord s, rfl, fun h => ?pixLevel, fun g h => ?paramLevel, hfull, hpix, hparam, hnoprog,
    genStatusWord_generator s, fun _ => genStatusWord_padding s⟩
  case pixLevel => rw [genStatusWord_pixLevel, toNat_ofNat_of_le h]
  case paramLevel => rw [genStatusWord_paramLevel, toNat_ofNat_of_le h]

/-! ### IMEM_USED -/

/-- The smaller of a word and 32, as a word. -/
theorem cap_eq_min (v : Word) : (if v ≤ 32#32 then v else 32#32) = BitVec.ofNat 32 (min v.toNat 32) := by
  split
  · next h =>
    have hle : v.toNat ≤ 32 := BitVec.le_def.1 h
    rw [min_eq_left hle, BitVec.ofNat_toNat, BitVec.setWidth_eq]
  · next h =>
    have hlt : 32 < v.toNat := BitVec.lt_def.1 (BitVec.not_le.1 h)
    rw [min_eq_right hlt.le]

/-- Settles O22. -/
theorem instructionMemoryUsed : Obligations.InstructionMemoryUsed := by
  intro s v
  refine ⟨rfl, fun hbusy => ?ignored, fun hidle => ?stored⟩
  case ignored =>
    have same : wrImemUsed v s = s := if_neg hbusy
    exact congrArg (fun w => Host.Outcome.next (acked w)) same
  case stored =>
    have capped : wrImemUsed v s = { s with imemUsed := BitVec.ofNat 32 (min v.toNat 32) } :=
      (if_pos hidle).trans (by rw [cap_eq_min])
    exact congrArg (fun w => Host.Outcome.next (acked w)) capped

/-! ### The generators' turns -/

theorem step_of_gen {g : Gen} (hturn : nextAgent s = .gen g) :
    step s = .next (countStep (genStep g (takeTurn s))) := by
  rw [step, stepOnce, hturn]
  rfl

theorem agentEnabled_gen_iff {g : Gen} :
    agentEnabled (.gen g) s = true ↔ latchEnabled g s = true ∨ (g = .p ∧ pixPopEnabled s = true) := by
  simp [agentEnabled]

theorem genLatch_of_cons {g : Gen} {v : Word} {rest : List Word} (h : (s.gen g).paramQ = v :: rest) :
    genLatch g s = s.setGen g { s.gen g with cntLoad := v, latched := true, paramQ := rest } := by
  simp [genLatch, h]

theorem pixPop_of_cons {b : Byte} {rest : List Byte} (h : s.pixQ = b :: rest) :
    pixPop s = { s with pixQ := rest, pixOut := s.pixOut ++ [b] } := by
  simp [pixPop, h]

/-- A latched generator has no latch step, so the pixel generator's turn is the pop (R250, R252). -/
theorem genStep_of_pop (h : pixPopEnabled s = true) : genStep .p s = pixPop s := by
  have noLatch : ¬ latchEnabled .p s = true := fun hl => by
    obtain ⟨_, _, unlatched, _⟩ := latchEnabled_iff.1 hl
    obtain ⟨_, _, latched, _⟩ := pixPopEnabled_iff.1 h
    exact absurd (unlatched.symm.trans latched) (by decide)
  rw [genStep, if_neg noLatch, if_pos ⟨rfl, h⟩]

/-- Settles O35: by the enabling conditions of the latch and of the pop, which exclude each other. -/
theorem generatorSteps : Obligations.GeneratorSteps := by
  refine ⟨?latch, ?pop, ?idle⟩
  case latch =>
    intro s g v rest hturn hen hloaded hlatched hq
    have enabled : latchEnabled g (takeTurn s) = true :=
      latchEnabled_iff.2 (by simp [hen, hloaded, hlatched, hq])
    rw [step_of_gen hturn, genStep, if_pos enabled, genLatch_of_cons ((congrArg _ (takeTurn_gen s g)).trans hq),
      takeTurn_gen]
  case pop =>
    intro s b rest hturn hen hloaded hlatched hq
    have enabled : pixPopEnabled (takeTurn s) = true :=
      pixPopEnabled_iff.2 (by simp [hen, hloaded, hlatched, hq])
    rw [step_of_gen hturn, genStep_of_pop enabled, pixPop_of_cons (s := takeTurn s) hq]
    rfl
  case idle =>
    intro s g hturn noLatch noPop
    have idle : agentEnabled (.gen g) s = false := by
      rw [← Bool.not_eq_true, agentEnabled_gen_iff, latchEnabled_iff, pixPopEnabled_iff]
      exact not_or.2 ⟨noLatch, noPop⟩
    rw [step_of_gen hturn, genStep_of_idle ((agentEnabled_takeTurn _ s).trans idle)]

end Sys2Proof.Machine
end

section
/-! # The start-up sequencer (45_startup_sequencer.md)

The registers; which phase follows which, and that only START moves the phase in another agent's turn; one rule for
each phase, as an update of the state; and a start as a run of six phases. -/

namespace Sys2Proof.Machine

variable {s t u : State}

/-! ### The registers -/

/-- A write instruction answers what its register's write leads to, acknowledged. -/
theorem next_acked (h : t = u) :
    (.next (acked t) : Host.Outcome State Fault Refusal) = .next (acked u) := by rw [h]

theorem wrSeqCfg_of_idle (r : SeqCfg) (v : Word) (h : s.seqState = .idle) : wrSeqCfg r v s = setSeqCfg r v s := if_pos h

theorem wrSeqCfg_of_started (r : SeqCfg) (v : Word) (h : s.seqState ≠ .idle) : wrSeqCfg r v s = s := if_neg h

/-- Settles O23: in IDLE a write sets its register, elsewhere it is the identity. -/
theorem sequencerConfigRegisters : Obligations.SequencerConfigRegisters := by
  intro s v
  refine ⟨fun hidle => ?stored, fun hstarted => ?ignored, rfl, rfl, rfl, rfl, rfl, rfl, rfl⟩
  case stored =>
    have stored (r : SeqCfg) := next_acked (wrSeqCfg_of_idle r v hidle)
    exact ⟨stored .fbBase, stored .fbLen, stored .ptrAddr, stored .paramH, stored .paramV, stored .paramP,
      stored .pins⟩
  case ignored =>
    have ignored (r : SeqCfg) := next_acked (wrSeqCfg_of_started r v hstarted)
    exact ⟨ignored .fbBase, ignored .fbLen, ignored .ptrAddr, ignored .paramH, ignored .paramV, ignored .paramP,
      ignored .pins⟩

theorem wrSeqCtrl_of_clear {v : Word} (s : State) (h : v.getLsbD 0 = false) : wrSeqCtrl v s = s :=
  if_neg (Bool.eq_false_iff.1 h)

theorem wrSeqCtrl_of_idle {v : Word} (h : v.getLsbD 0 = true) (hs : s.seqState = .idle) :
    wrSeqCtrl v s = { s with seqState := .load } :=
  (if_pos h).trans (if_pos hs)

theorem wrSeqCtrl_of_started {v : Word} (h : v.getLsbD 0 = true) (hs : s.seqState ≠ .idle) :
    wrSeqCtrl v s = raiseEvent .doubleInit s :=
  (if_pos h).trans (if_neg hs)

/-- Settles O24. -/
theorem writeSequencerControl : Obligations.WriteSequencerControl := fun s _ =>
  ⟨fun h => next_acked (wrSeqCtrl_of_clear s h), fun h hs => next_acked (wrSeqCtrl_of_idle h hs),
    fun h hs => next_acked (wrSeqCtrl_of_started h hs)⟩

/-- Two fields side by side, the upper one weighted by the lower one's width. -/
theorem toNat_append_fields {m n : Nat} (x : BitVec m) (y : BitVec n) :
    (x ++ y).toNat = x.toNat * 2 ^ n + y.toNat := by
  rw [BitVec.toNat_append, ← Nat.shiftLeft_add_eq_or_of_lt y.isLt, Nat.shiftLeft_eq]

/-- SEQ_STATUS by its fields (10_state.md R61). -/
theorem seqStatusWord_toNat (s : State) :
    (seqStatusWord s).toNat = 65536 * s.doubleStart.toNat + 256 * s.failCode.code.toNat + s.seqState.code.toNat := by
  simp only [seqStatusWord, toNat_append_fields, BitVec.toNat_zero, BitVec.toNat_ofBool]
  omega

/-- Settles O25: the fields of SEQ_STATUS, by their codes. -/
theorem readSequencerStatus : Obligations.ReadSequencerStatus := by
  intro s
  have start : 65536 * s.doubleStart.toNat = if s.doubleStart then 65536 else 0 := by cases s.doubleStart <;> rfl
  refine ⟨seqStatusWord s, rfl, ?_⟩
  rw [seqStatusWord_toNat, start]
  congr 1
  · cases s.failCode <;> rfl
  · cases s.seqState <;> rfl

/-! ### The sequencer's turn -/

/-- A turn of the sequencer, as a step. -/
def seqTurn (s : State) : State := countStep (seqStep (takeTurn s))

theorem step_of_seq (h : nextAgent s = .seq) : step s = .next (seqTurn s) := by
  rw [step, stepOnce, h]
  rfl

/-- What the sequencer does in a phase (45_startup_sequencer.md R288). -/
def phaseStep : SeqState → State → State
  | .load => seqLoad
  | .assign => seqAssign
  | .config => seqConfig
  | .param => seqParam
  | .enable => seqEnable
  | .arm => seqArm
  | .idle | .running | .failed => id

theorem seqStep_eq_phaseStep (s : State) : seqStep s = phaseStep s.seqState s := by
  unfold seqStep
  cases s.seqState <;> rfl

theorem seqTurn_of_phase {q : SeqState} (h : s.seqState = q) : seqTurn s = countStep (phaseStep q (takeTurn s)) := by
  rw [seqTurn, seqStep_eq_phaseStep, takeTurn_seqState, h]

/-- The sequencer's turn in phase `q`, by what the phase does. -/
theorem step_of_phase {q : SeqState} {w : State} (hturn : nextAgent s = .seq) (hphase : s.seqState = q)
    (hw : phaseStep q (takeTurn s) = w) : step s = .next (countStep w) := by
  rw [step_of_seq hturn, seqTurn_of_phase hphase, hw]

/-- The phase after one that succeeds; IDLE, RUNNING and FAILED stay (45_startup_sequencer.md R289, R290). -/
def SeqState.succ : SeqState → SeqState
  | .idle => .idle
  | .load => .assign
  | .assign => .config
  | .config => .param
  | .param => .enable
  | .enable => .arm
  | .arm => .running
  | .running => .running
  | .failed => .failed

theorem loadPrograms_seqState (gs : List Gen) (s : State) :
    (loadPrograms gs s).seqState = .assign ∨ (loadPrograms gs s).seqState = .failed := by
  induction gs generalizing s with
  | nil => exact .inl rfl
  | cons g gs ih =>
    unfold loadPrograms
    split
    · exact ih _
    · exact .inr rfl

/-- A phase leads to the one after it or fails (45_startup_sequencer.md R289). -/
theorem seqStep_seqState (s : State) :
    (seqStep s).seqState = s.seqState.succ ∨ (seqStep s).seqState = .failed := by
  unfold seqStep
  cases hs : s.seqState with
  | load => exact loadPrograms_seqState _ s
  | assign =>
    simp only [seqAssign]
    split
    · exact .inr rfl
    · exact .inl rfl
  | config =>
    simp only [seqConfig]
    split
    · exact .inr rfl
    · exact .inl rfl
  | param | enable | arm => exact .inl rfl
  | idle | running | failed => exact .inl hs

/-! ### What every step keeps of the sequencer -/

/-- From `s` to `t` the failure code stays, and so does the phase, but that a START may leave IDLE for LOAD
(45_startup_sequencer.md R284). -/
structure SeqKept (s t : State) : Prop where
  failCode : t.failCode = s.failCode
  seqState : t.seqState = s.seqState ∨ (s.seqState = .idle ∧ t.seqState = .load)

theorem SeqKept.of_same (hf : t.failCode = s.failCode) (hs : t.seqState = s.seqState) : SeqKept s t := ⟨hf, .inl hs⟩

theorem SeqKept.trans (h : SeqKept s t) (h' : SeqKept t u) : SeqKept s u where
  failCode := h'.failCode.trans h.failCode
  seqState := by
    rcases h.seqState with e | ⟨hidle, hload⟩
    · exact e ▸ h'.seqState
    · rcases h'.seqState with e' | ⟨hidle', _⟩
      · exact .inr ⟨hidle, e'.trans hload⟩
      · rw [hload] at hidle'
        cases hidle'

theorem seqKept_wrSeqCtrl (v : Word) (s : State) : SeqKept s (wrSeqCtrl v s) where
  failCode := wrSeqCtrl_failCode s v
  seqState := by
    cases hv : v.getLsbD 0 with
    | false => exact .inl (by rw [wrSeqCtrl_of_clear s hv])
    | true =>
      by_cases hs : s.seqState = .idle
      · exact .inr ⟨hs, by rw [wrSeqCtrl_of_idle hv hs]⟩
      · exact .inl (by rw [wrSeqCtrl_of_started hv hs, raiseEvent_seqState])

theorem seqKept_regWrite (r : Reg) (v : Word) (s : State) : SeqKept s (regWrite r v s) := by
  cases r with
  | seqCtrl => exact seqKept_wrSeqCtrl v s
  | _ =>
    refine .of_same (regWrite_failCode s _ v) ?_
    simp [regWrite, wrStatus, wrResClaim, wrGenStatus, wrSeqStatus]

theorem seqKept_hostStep (h : hostStep s = .next t) : SeqKept s t := by
  unfold hostStep at h
  split at h
  · cases h
    exact .of_same rfl rfl
  · next op rest _ =>
    obtain ⟨q, _, ⟨r, v, rfl⟩ | ⟨x, rfl⟩ | ⟨k, hdr, rfl⟩ | ⟨a, sz, v, _, _, rfl⟩⟩ := hostOp_next h
    · exact { seqKept_regWrite r v { s with hostQ := rest } with }
    · exact .of_same rfl rfl
    · exact .of_same rfl rfl
    · exact .of_same rfl rfl

theorem seqKept_finishElement (n : Chan) (sz : Size) (s : State) : SeqKept s (finishElement n sz s) := by
  rw [finishElement_frame]
  exact .of_same rfl rfl

theorem seqKept_chStep {n : Chan} (h : chStep n s = .next t) : SeqKept s t := by
  rcases chStep_next h with ⟨_, rfl⟩ | ⟨sz, _, _, _, _, ⟨_, rfl⟩ | ⟨_, rfl⟩⟩
  · exact .of_same rfl rfl
  · rcases chReadPhase_cases n sz s with e | ⟨x, _, _, e⟩ <;> rw [e] <;> exact .of_same rfl rfl
  · rcases chWritePhase_cases n sz s with e | ⟨w, _, hw, e⟩ <;> rw [e]
    · exact .of_same rfl rfl
    · refine SeqKept.trans ?_ (seqKept_finishElement n sz w)
      rcases busWrite_cases s hw with ⟨r, _, _, rfl⟩ | ⟨_, _, rfl⟩
      · exact seqKept_regWrite r _ s
      · exact .of_same rfl rfl

theorem seqKept_genStep (g : Gen) (s : State) : SeqKept s (genStep g s) := by
  rcases genStep_cases g s with ⟨_, e⟩ | ⟨_, _, e⟩ | e <;> rw [e] <;> exact .of_same rfl rfl

/-- Only START moves the phase in another agent's turn. -/
theorem seqKept_agentStep {a : Agent} (ha : a ≠ .seq) (h : agentStep a s = .next t) : SeqKept s t := by
  cases a with
  | host => exact seqKept_hostStep h
  | chan n => exact seqKept_chStep h
  | gen g =>
    cases h
    exact seqKept_genStep g s
  | seq => exact absurd rfl ha

/-- A step is the sequencer's turn, or keeps the sequencer but for a START. -/
theorem step_seq_cases (h : step s = .next t) : t = seqTurn s ∨ SeqKept s t := by
  by_cases hturn : nextAgent s = .seq
  · exact .inl (Host.Outcome.next.inj (h.symm.trans (step_of_seq hturn)))
  · obtain ⟨w, hw, rfl⟩ := step_next h
    exact .inr { seqKept_agentStep hturn hw with }

theorem SeqState.succ_eq_idle {q : SeqState} (h : q.succ = .idle) : q = .idle := by
  cases q with
  | idle => rfl
  | _ => cases h

/-- Settles O41: the sequencer's turn leads from a phase to one after it or to FAILED, and from RUNNING and FAILED
nowhere; every other turn keeps the phase but for a START in IDLE. -/
theorem sequencerTerminal : Obligations.SequencerTerminal := by
  intro s t h
  rcases step_seq_cases h with rfl | ⟨hcode, same | ⟨hidle, hload⟩⟩
  · refine ⟨fun hs => ?running, fun hs => ?failed, fun ht => ?idle⟩
    case running =>
      rw [seqTurn_of_phase hs]
      exact hs
    case failed =>
      rw [seqTurn_of_phase hs]
      exact ⟨hs, rfl⟩
    case idle =>
      rcases seqStep_seqState (takeTurn s) with e | e
      · exact SeqState.succ_eq_idle (e.symm.trans ht)
      · cases e.symm.trans ht
  · exact ⟨same.trans, fun hs => ⟨same.trans hs, hcode⟩, same.symm.trans⟩
  · simp [hidle, hload]

/-! ### The load phase -/

/-- Generator `g`'s program is placed, with which `n` slots are used (45_startup_sequencer.md R291). -/
def programPlaced (g : Gen) (n : Nat) (s : State) : State :=
  { s.setGen g { s.gen g with loaded := true } with imemUsed := BitVec.ofNat 32 n }

/-- A program that fits is placed behind the `n` slots used before (45_startup_sequencer.md R291). -/
theorem loadPrograms_of_fits {g : Gen} {n : Nat} (hused : s.imemUsed.toNat = n) (hfit : n + s.params.progLen g ≤ 32)
    (gs : List Gen) : loadPrograms (g :: gs) s = loadPrograms gs (programPlaced g (n + s.params.progLen g) s) := by
  subst hused
  have placed : loadProgram g s = programPlaced g (s.imemUsed.toNat + s.params.progLen g) s := by
    rw [loadProgram, programPlaced, BitVec.ofNat_add, BitVec.ofNat_toNat, BitVec.setWidth_eq]
  rw [loadPrograms, if_pos (show programFits g s = true from decide_eq_true hfit), placed]

/-- A program that does not fit is not loaded in part (45_startup_sequencer.md R291). -/
theorem loadPrograms_of_exhausted {g : Gen} {n : Nat} (hused : s.imemUsed.toNat = n)
    (hfull : 32 < n + s.params.progLen g) (gs : List Gen) :
    loadPrograms (g :: gs) s = seqFail .imemExhausted s := by
  subst hused
  exact if_neg (mt of_decide_eq_true (Nat.not_le.2 hfull))

/-- The state with other generators and `n` slots of the instruction memory used. -/
def State.withPrograms (h v p : Generator) (n : Nat) (s : State) : State :=
  { s with genH := h, genV := v, genP := p, imemUsed := BitVec.ofNat 32 n }

/-- Settles O38: the programs are placed one after the other up to the first that does not fit. -/
theorem sequencerLoad : Obligations.SequencerLoad := by
  intro s hturn hphase u h v p loadedH loadedV loadedP
  let placedH := (takeTurn s).withPrograms loadedH s.genV s.genP (u + h)
  let placedV := (takeTurn s).withPrograms loadedH loadedV s.genP (u + h + v)
  let placedP := (takeTurn s).withPrograms loadedH loadedV loadedP (u + h + v + p)
  have placeH (fit : u + h ≤ 32) : loadPrograms [.h, .v, .p] (takeTurn s) = loadPrograms [.v, .p] placedH :=
    loadPrograms_of_fits rfl fit _
  have placeV (fit : u + h + v ≤ 32) : loadPrograms [.v, .p] placedH = loadPrograms [.p] placedV :=
    loadPrograms_of_fits (s := placedH) (g := .v) (toNat_ofNat_of_le (by omega)) fit _
  have placeP (fit : u + h + v + p ≤ 32) : loadPrograms [.p] placedV = loadPrograms [] placedP :=
    loadPrograms_of_fits (s := placedV) (g := .p) (toNat_ofNat_of_le (by omega)) fit _
  refine ⟨fun full => ?first, fun fit full => ?second, fun fit full => ?third, fun fit => ?all⟩
  case first =>
    have fails : loadPrograms [.h, .v, .p] (takeTurn s) = seqFail .imemExhausted (takeTurn s) :=
      loadPrograms_of_exhausted rfl full _
    exact step_of_phase hturn hphase fails
  case second =>
    have fails : loadPrograms [.v, .p] placedH = seqFail .imemExhausted placedH :=
      loadPrograms_of_exhausted (s := placedH) (g := .v) (toNat_ofNat_of_le (by omega)) full _
    exact step_of_phase hturn hphase ((placeH fit).trans fails)
  case third =>
    have fails : loadPrograms [.p] placedV = seqFail .imemExhausted placedV :=
      loadPrograms_of_exhausted (s := placedV) (g := .p) (toNat_ofNat_of_le (by omega)) full _
    exact step_of_phase hturn hphase ((placeH (by omega)).trans ((placeV fit).trans fails))
  case all =>
    exact step_of_phase hturn hphase ((placeH (by omega)).trans ((placeV (by omega)).trans (placeP fit)))

/-! ### Claims -/

/-- A word under a mask is 0 exactly when the bits the mask names are clear in it. -/
theorem and_eq_zero_iff_of_bits {m : Word} {bits : List Nat} (hm : ∀ j < 32, m.getLsbD j = decide (j ∈ bits))
    (w : Word) : w &&& m = 0#32 ↔ ∀ j ∈ bits, w.getLsbD j = false := by
  constructor
  · intro h j hj
    by_cases hlt : j < 32
    · have bit := congrArg (BitVec.getLsbD · j) h
      simpa [hm j hlt, hj] using bit
    · exact BitVec.getLsbD_of_ge w j (by omega)
  · intro h
    apply BitVec.eq_of_getLsbD_eq
    intro j hlt
    by_cases hj : j ∈ bits
    · simp [h j hj]
    · simp [hm j hlt, hj]

/-- Whether a slot is claimed, by the bits of RES_CLAIM (10_state.md R49). -/
theorem slotClaims_eq_zero_iff (w : Word) :
    w &&& slotClaims = 0#32 ↔ (w.getLsbD 4 || w.getLsbD 5 || w.getLsbD 6) = false := by
  rw [and_eq_zero_iff_of_bits (bits := [4, 5, 6]) (by decide)]
  simp [and_assoc]

/-- Whether channel 0 or 1 is claimed, by the bits of RES_CLAIM (10_state.md R49). -/
theorem scanoutClaims_eq_zero_iff (w : Word) :
    w &&& scanoutClaims = 0#32 ↔ (w.getLsbD 0 || w.getLsbD 1) = false := by
  rw [and_eq_zero_iff_of_bits (bits := [0, 1]) (by decide)]
  simp

/-! ### The assign and config phases -/

theorem seqAssign_of_taken (h : s.resClaim &&& slotClaims ≠ 0#32) :
    seqAssign s = seqFail .smSlotUnavailable s := if_pos h

theorem seqAssign_of_free (h : s.resClaim &&& slotClaims = 0#32) :
    seqAssign s = { s with resClaim := s.resClaim ||| slotClaims, seqState := .config } := if_neg (not_not.2 h)

theorem seqConfig_of_taken (h : s.resClaim &&& scanoutClaims ≠ 0#32) :
    seqConfig s = seqFail .channelUnavailable s := if_pos h

/-- A write of CTRL with EN set and no bit outside the writable ones (40_channel_registers.md R156). -/
theorem written_of_writable {v : Word} (hen : v.getLsbD 0 = true) (hv : v &&& Ctrl.writeMask = v) (c : Word) :
    Ctrl.written c v = if c.getLsbD 24 then c ||| 0x00000001#32 else (c &&& ~~~0x0000373D#32) ||| v := by
  rw [Ctrl.written, hen, hv]
  rfl

/-- Descriptors A and B are written, and nothing is triggered (45_startup_sequencer.md R293 to R295). -/
theorem seqConfig_of_free (h : s.resClaim &&& scanoutClaims = 0#32) : seqConfig s = { s with
    resClaim := s.resClaim ||| scanoutClaims
    ch0 := { s.ch0 with
      readAddr := s.seqFbBase, writeAddr := pixTxfAddr s.params, tcReload := s.seqFbLen
      ctrl := Ctrl.written s.ch0.ctrl ctrlA }
    ch1 := { s.ch1 with
      readAddr := s.seqPtrAddr, writeAddr := ch0ReadAddrAddr s.params, tcReload := 1#32
      ctrl := Ctrl.written s.ch1.ctrl ctrlB }
    seqState := .param } := by
  rw [seqConfig, if_neg (not_not.2 h)]
  rfl

/-- Settles O39: by the four outcomes of the two phases. -/
theorem sequencerAssignConfig : Obligations.SequencerAssignConfig := by
  refine ⟨?assign, ?config⟩
  case assign =>
    intro s hturn hphase taken
    refine ⟨fun h => ?_, fun h => ?_⟩
    · have claimed : (takeTurn s).resClaim &&& slotClaims ≠ 0#32 := fun free =>
        Bool.false_ne_true (((slotClaims_eq_zero_iff _).1 free).symm.trans h)
      exact step_of_phase hturn hphase (seqAssign_of_taken claimed)
    · exact step_of_phase hturn hphase (seqAssign_of_free (s := takeTurn s) ((slotClaims_eq_zero_iff _).2 h))
  case config =>
    intro s hturn hphase taken control
    refine ⟨fun h => ?_, fun h => ?_⟩
    · have claimed : (takeTurn s).resClaim &&& scanoutClaims ≠ 0#32 := fun free =>
        Bool.false_ne_true (((scanoutClaims_eq_zero_iff _).1 free).symm.trans h)
      exact step_of_phase hturn hphase (seqConfig_of_taken claimed)
    · have configured := seqConfig_of_free (s := takeTurn s) ((scanoutClaims_eq_zero_iff _).2 h)
      rw [written_of_writable (v := ctrlA) rfl rfl, written_of_writable (v := ctrlB) rfl rfl, ch0ReadAddrAddr,
        BitVec.add_zero] at configured
      exact step_of_phase hturn hphase configured

/-! ### The param, enable and arm phases -/

theorem State.setGen_self (g : Gen) (s : State) : s.setGen g (s.gen g) = s := by cases g <;> rfl

/-- A push to a parameter queue, as one update (44_timing_generators.md R244). -/
theorem wrGenParam_eq (g : Gen) (v : Word) (s : State) : wrGenParam g v s =
    { s.setGen g { s.gen g with paramQ := pushed s.params.paramDepth (s.gen g).paramQ v } with
      paramOver := s.paramOver || decide (s.params.paramDepth ≤ (s.gen g).paramQ.length) } := by
  unfold wrGenParam pushed
  split
  · next room => simp [Nat.not_le.2 room, State.setGen]
  · next full =>
    have same : s.setGen g { s.gen g with paramQ := (s.gen g).paramQ } = s := State.setGen_self g s
    simp [Nat.not_lt.1 full, same]

/-- With every program loaded a write of GEN_ENABLE raises no NOPROG (44_timing_generators.md R241). -/
theorem wrGenEnable_of_loaded (v : Word) (h : ∀ g, (s.gen g).loaded = true) : wrGenEnable v s = { s with
    genEnable := v &&& genEnableMask
    genH := enableMarked s.genEnable v s .h
    genV := enableMarked s.genEnable v s .v
    genP := enableMarked s.genEnable v s .p } := by
  have clear (g : Gen) : noprogCheck s.genEnable (v &&& genEnableMask) g s = s :=
    noprogCheck_of_not_due (by simp [noprogDue, h g])
  simp only [wrGenEnable, clear, markEnabled_all, enableMarked, enableRises_mask]
  rfl

/-- The enable phase sets all three bits, so the enables that rise are those that were clear
(45_startup_sequencer.md R297). -/
theorem enableMarked_all (old : Word) (s : State) (g : Gen) : enableMarked old 0x00000007#32 s g =
    if old.getLsbD g.index then s.gen g else { s.gen g with enStep := some s.stepNo } := by
  have rises : enableRises old 0x00000007#32 g = !old.getLsbD g.index := by cases g <;> simp [enableRises, Gen.index]
  rw [enableMarked, rises]
  cases old.getLsbD g.index <;> rfl

/-- Settles O40: the pushes and the enables are one update each; by the invariant every program is loaded, so no NOPROG is
due. -/
theorem sequencerParamEnableArm : Obligations.SequencerParamEnableArm := by
  refine ⟨fun s hturn hphase => ?param, fun s hinv hturn hphase => ?enable, fun s hturn hphase => ?arm⟩
  case param =>
    refine step_of_phase hturn hphase ?_
    simp only [phaseStep, seqParam, wrGenParam_eq]
    rfl
  case enable =>
    have loaded (g : Gen) : ((takeTurn s).gen g).loaded = true := by
      rw [takeTurn_gen]
      exact hinv.loaded (by rw [hphase]; rfl) g
    have enables := wrGenEnable_of_loaded 0x00000007#32 loaded
    simp only [enableMarked_all] at enables
    exact step_of_phase hturn hphase (congrArg (fun w : State => { w with seqState := .arm }) enables)
  case arm => exact step_of_phase hturn hphase rfl

theorem chainState_of_busyA (hA : Ctrl.busy s.ch0.ctrl = true) (hB : Ctrl.busy s.ch1.ctrl = false) :
    chainState s = .streaming := by rw [chainState, hA, hB]

/-- Settles O58: the trigger of the idle, wired channel 0 starts a pass over the mapped framebuffer. -/
theorem armStartsChain : Obligations.ArmStartsChain := by
  intro s hturn hphase hwired idleA idleB hmap
  have hctrl : s.ch0.ctrl = ctrlA := (eq_putBusy hwired.ctrlOfA idleA).trans putBusy_false_ctrlA
  have starts := trigger_of_startable (n := .ch0) (s := takeTurn s) (startable_of_ctrlA hctrl hwired.countOfA)
  have arms := congrArg (fun w : State => { w with seqState := .running }) starts
  refine ⟨_, step_of_phase hturn hphase arms, ?_, ?_⟩
  · exact chainRunning_of_busyA rfl { hwired with ctrlOfA := (putBusy_putBusy false true _).trans hwired.ctrlOfA }
      (busy_putBusy true _) idleB hwired.countOfA hmap
  · exact chainState_of_busyA (busy_putBusy true _) idleB

/-! ### A whole start -/

theorem seqTurn_of_step (hturn : nextAgent s = .seq) (h : step s = .next t) : seqTurn s = t :=
  Host.Outcome.next.inj ((step_of_seq hturn).symm.trans h)

@[simp] theorem loadPrograms_sched (gs : List Gen) (s : State) : (loadPrograms gs s).sched = s.sched := by
  induction gs generalizing s with
  | nil => rfl
  | cons g gs ih =>
    unfold loadPrograms
    split
    · exact ih _
    · rfl

/-- The sequencer's phases do not look ahead in the list of turns. -/
@[simp] theorem phaseStep_sched (q : SeqState) (s : State) : (phaseStep q s).sched = s.sched := by
  cases q with
  | load => exact loadPrograms_sched _ s
  | assign =>
    simp only [phaseStep, seqAssign]
    split <;> rfl
  | config =>
    simp only [phaseStep, seqConfig]
    split <;> rfl
  | param => simp [phaseStep, seqParam]
  | enable => simp [phaseStep, seqEnable]
  | arm => simp [phaseStep, seqArm]
  | idle | running | failed => rfl

/-- A run in which only the sequencer has turns. -/
theorem run_seqTurns {k : Nat} (h : s.sched = List.replicate k .seq) : core.run k s = .next (seqTurn^[k] s) := by
  induction k generalizing s with
  | zero => exact run_zero s
  | succ k ih =>
    rw [run_succ (step_of_seq (nextAgent_of_sched h))]
    refine ih ?_
    rw [seqTurn_of_phase rfl, countStep_sched, phaseStep_sched, takeTurn_sched, h]
    rfl

/-- GEN_ENABLE and channels 0 and 1, which a start does not touch before its config phase (45_startup_sequencer.md
R301). -/
structure ScanoutKept (s t : State) : Prop where
  enables : t.genEnable = s.genEnable
  channelA : t.ch0 = s.ch0
  channelB : t.ch1 = s.ch1

/-- A start from `s` has failed with code `f` (45_startup_sequencer.md R291 to R293). -/
structure StartFailed (f : FailCode) (s t : State) : Prop extends ScanoutKept s t where
  phase : t.seqState = .failed
  code : t.failCode = f

/-- FAILED is left by no turn (45_startup_sequencer.md R290). -/
theorem StartFailed.turns {f : FailCode} (h : StartFailed f s t) (k : Nat) : StartFailed f s (seqTurn^[k] t) := by
  induction k with
  | zero => exact h
  | succ k ih =>
    rw [Function.iterate_succ_apply', seqTurn_of_phase ih.phase]
    exact { ih with }

/-- A start has come to phase `q` with the claims `c` and `used` slots of the instruction memory. -/
structure StartAt (q : SeqState) (c used : Word) (t : State) : Prop where
  phase : t.seqState = q
  code : t.failCode = .noFailure
  claims : t.resClaim = c
  slots : t.imemUsed = used

variable {c used : Word}

/-- The slots of the instruction memory that a start needs (45_startup_sequencer.md R291). -/
def slotsNeeded (s : State) : Nat :=
  s.imemUsed.toNat + s.params.progLenH + s.params.progLenV + s.params.progLenP

theorem startFailed_of_exhausted (hturn : nextAgent s = .seq) (hphase : s.seqState = .load)
    (hfull : 32 < slotsNeeded s) : StartFailed .imemExhausted s (seqTurn s) := by
  obtain ⟨first, second, third, _⟩ := sequencerLoad s hturn hphase
  by_cases fitH : s.imemUsed.toNat + s.params.progLenH ≤ 32
  · by_cases fitV : s.imemUsed.toNat + s.params.progLenH + s.params.progLenV ≤ 32
    · rw [seqTurn_of_step hturn (third fitV hfull)]
      exact ⟨⟨rfl, rfl, rfl⟩, rfl, rfl⟩
    · rw [seqTurn_of_step hturn (second fitH (Nat.not_le.1 fitV))]
      exact ⟨⟨rfl, rfl, rfl⟩, rfl, rfl⟩
  · rw [seqTurn_of_step hturn (first (Nat.not_le.1 fitH))]
    exact ⟨⟨rfl, rfl, rfl⟩, rfl, rfl⟩

theorem startAt_assign (hturn : nextAgent s = .seq) (hphase : s.seqState = .load) (hcode : s.failCode = .noFailure)
    (hfit : slotsNeeded s ≤ 32) :
    StartAt .assign s.resClaim (BitVec.ofNat 32 (slotsNeeded s)) (seqTurn s) ∧ ScanoutKept s (seqTurn s) := by
  obtain ⟨_, _, _, all⟩ := sequencerLoad s hturn hphase
  rw [seqTurn_of_step hturn (all hfit)]
  exact ⟨⟨rfl, hcode, rfl, rfl⟩, ⟨rfl, rfl, rfl⟩⟩

theorem StartAt.assign_fails (h : StartAt .assign c used t) (kept : ScanoutKept s t)
    (taken : c &&& slotClaims ≠ 0#32) : StartFailed .smSlotUnavailable s (seqTurn t) := by
  rw [seqTurn_of_phase h.phase, phaseStep, seqAssign_of_taken (s := takeTurn t) (by rwa [takeTurn_resClaim, h.claims])]
  exact { kept with phase := rfl, code := rfl }

theorem StartAt.assign_goes_on (h : StartAt .assign c used t) (kept : ScanoutKept s t)
    (free : c &&& slotClaims = 0#32) :
    StartAt .config (c ||| slotClaims) used (seqTurn t) ∧ ScanoutKept s (seqTurn t) := by
  rw [seqTurn_of_phase h.phase, phaseStep, seqAssign_of_free (s := takeTurn t) (by rwa [takeTurn_resClaim, h.claims])]
  exact ⟨{ h with phase := rfl, claims := congrArg (· ||| slotClaims) h.claims }, { kept with }⟩

theorem StartAt.config_fails (h : StartAt .config c used t) (kept : ScanoutKept s t)
    (taken : c &&& scanoutClaims ≠ 0#32) : StartFailed .channelUnavailable s (seqTurn t) := by
  rw [seqTurn_of_phase h.phase, phaseStep, seqConfig_of_taken (s := takeTurn t) (by rwa [takeTurn_resClaim, h.claims])]
  exact { kept with phase := rfl, code := rfl }

theorem StartAt.config_goes_on (h : StartAt .config c used t) (free : c &&& scanoutClaims = 0#32) :
    StartAt .param (c ||| scanoutClaims) used (seqTurn t) := by
  rw [seqTurn_of_phase h.phase, phaseStep, seqConfig_of_free (s := takeTurn t) (by rwa [takeTurn_resClaim, h.claims])]
  exact { h with phase := rfl, claims := congrArg (· ||| scanoutClaims) h.claims }

theorem StartAt.param_goes_on (h : StartAt .param c used t) : StartAt .enable c used (seqTurn t) := by
  rw [seqTurn_of_phase h.phase]
  constructor <;> simp [phaseStep, seqParam, h.code, h.claims, h.slots]

theorem StartAt.enable_goes_on (h : StartAt .enable c used t) :
    StartAt .arm c used (seqTurn t) ∧ (seqTurn t).genEnable = 0x00000007#32 := by
  rw [seqTurn_of_phase h.phase]
  refine ⟨?_, wrGenEnable_genEnable _ _⟩
  constructor <;> simp [phaseStep, seqEnable, h.code, h.claims, h.slots]

theorem StartAt.arm_goes_on (h : StartAt .arm c used t) :
    StartAt .running c used (seqTurn t) ∧ (seqTurn t).genEnable = t.genEnable := by
  rw [seqTurn_of_phase h.phase]
  refine ⟨?_, trigger_genEnable _ _⟩
  constructor <;> simp [phaseStep, seqArm, h.code, h.claims, h.slots]

/-- The claims of the slots say nothing of channels 0 and 1 (10_state.md R49). -/
theorem or_slotClaims_and_scanoutClaims (c : Word) : (c ||| slotClaims) &&& scanoutClaims = c &&& scanoutClaims := by
  have disjoint : scanoutClaims &&& slotClaims = 0#32 := by decide
  rw [BitVec.and_comm, BitVec.and_or_distrib_left, disjoint, BitVec.or_zero, BitVec.and_comm]

/-- What a start from `s` that has ended in `t` for this cause, or without a failure, has done (45_startup_sequencer.md
R289, R301). -/
def StartEndsAs (cause : FailCode) (s t : State) : Prop :=
  t.failCode = cause ∧ t.seqState = (if cause = .noFailure then .running else .failed) ∧
  (cause ≠ .noFailure → t.genEnable = s.genEnable ∧ t.ch0 = s.ch0 ∧ t.ch1 = s.ch1) ∧
  (cause = .noFailure → t.genEnable = 0x00000007#32 ∧ t.resClaim = s.resClaim ||| 0x00000073#32 ∧
    t.imemUsed = BitVec.ofNat 32 (slotsNeeded s))

theorem StartFailed.endsAs {f : FailCode} (h : StartFailed f s t) (hf : f ≠ .noFailure) : StartEndsAs f s t :=
  ⟨h.code, h.phase.trans (if_neg hf).symm, fun _ => ⟨h.enables, h.channelA, h.channelB⟩, fun e => absurd e hf⟩

theorem StartAt.endsAs (h : StartAt .running (s.resClaim ||| slotClaims ||| scanoutClaims)
    (BitVec.ofNat 32 (slotsNeeded s)) t) (enables : t.genEnable = 0x00000007#32) : StartEndsAs .noFailure s t :=
  ⟨h.code, h.phase, fun e => absurd rfl e,
    fun _ => ⟨enables, h.claims.trans (BitVec.or_assoc _ _ _), h.slots⟩⟩

/-- Six turns from LOAD, followed phase by phase until one fails (45_startup_sequencer.md R289). -/
theorem startEndsAs_turns (hturn : nextAgent s = .seq) (hphase : s.seqState = .load) (hcode : s.failCode = .noFailure) :
    StartEndsAs
      (if 32 < slotsNeeded s then .imemExhausted
       else if s.resClaim &&& slotClaims ≠ 0#32 then .smSlotUnavailable
       else if s.resClaim &&& scanoutClaims ≠ 0#32 then .channelUnavailable
       else .noFailure)
      s (seqTurn^[6] s) := by
  split
  · next full => exact ((startFailed_of_exhausted hturn hphase full).turns 5).endsAs (by decide)
  next fit =>
  obtain ⟨atAssign, kept⟩ := startAt_assign hturn hphase hcode (Nat.not_lt.1 fit)
  split
  · next taken => exact ((atAssign.assign_fails kept taken).turns 4).endsAs (by decide)
  next free =>
  obtain ⟨atConfig, kept⟩ := atAssign.assign_goes_on kept (not_not.1 free)
  rw [← or_slotClaims_and_scanoutClaims]
  split
  · next taken => exact ((atConfig.config_fails kept taken).turns 3).endsAs (by decide)
  next free =>
  obtain ⟨atArm, enables⟩ := (atConfig.config_goes_on (not_not.1 free)).param_goes_on.enable_goes_on
  obtain ⟨done, same⟩ := atArm.arm_goes_on
  exact done.endsAs (same.trans enables)

/-- Settles O43: a run whose six turns are the sequencer's is those six turns. -/
theorem startupOutcome : Obligations.StartupOutcome := by
  intro s t hinv hphase hrun
  have hcode : s.failCode = .noFailure := hinv.noFailure (by simp [hphase])
  obtain rfl : seqTurn^[6] (s.withTurns (List.replicate 6 .seq)) = t :=
    Host.Outcome.next.inj ((run_seqTurns rfl).symm.trans hrun)
  exact startEndsAs_turns (s := s.withTurns (List.replicate 6 .seq)) rfl hphase hcode

end Sys2Proof.Machine
end

section
/-! # Errors and progress (60_exceptions.md)

What no agent's turn takes back of the errors it finds, one rule for each operation on the state and then one for each
turn; that with the invariant every turn answers a next state; and the phases a start has left, which only the
sequencer's own turns use up. -/

namespace Sys2Proof.Machine

variable {s t u : State} {c d e : Word} {run : Nat → State}

/-! ### Errors of one channel -/

/-- From CTRL `c` to `d` no error bit falls, and BUSY does not rise beside an error (60_exceptions.md R315). -/
structure CtrlKept (c d : Word) : Prop where
  cfgErr : Ctrl.cfgErr c = true → Ctrl.cfgErr d = true
  readErr : Ctrl.readErr c = true → Ctrl.readErr d = true
  writeErr : Ctrl.writeErr c = true → Ctrl.writeErr d = true
  idle : Ctrl.err c = true → Ctrl.busy c = false → Ctrl.busy d = false

theorem CtrlKept.refl (c : Word) : CtrlKept c c := ⟨id, id, id, fun _ => id⟩

theorem CtrlKept.err (h : CtrlKept c d) (hc : Ctrl.err c = true) : Ctrl.err d = true := by
  simp only [Ctrl.err, Bool.or_eq_true] at hc ⊢
  exact hc.imp (.imp h.cfgErr h.readErr) h.writeErr

theorem CtrlKept.trans (h : CtrlKept c d) (h' : CtrlKept d e) : CtrlKept c e where
  cfgErr := h'.cfgErr ∘ h.cfgErr
  readErr := h'.readErr ∘ h.readErr
  writeErr := h'.writeErr ∘ h.writeErr
  idle herr hbusy := h'.idle (h.err herr) (h.idle herr hbusy)

/-- No write of CTRL reaches its error bits or BUSY (10_state.md R44; 40_channel_registers.md R156). -/
theorem ctrlKept_written (c v : Word) : CtrlKept c (Ctrl.written c v) := by
  constructor <;> simp

theorem ctrlKept_putBusy_false (c : Word) : CtrlKept c (Ctrl.putBusy false c) := by
  constructor <;> simp

/-- A channel is made busy only where it has no error (41_transfer_engine.md R171 case 2). -/
theorem ctrlKept_putBusy_true (h : Ctrl.err c = false) : CtrlKept c (Ctrl.putBusy true c) := by
  constructor <;> simp [h]

theorem ctrlKept_setCfgErr (c : Word) : CtrlKept c (Ctrl.setCfgErr c) := by
  constructor <;> simp

theorem ctrlKept_setReadErr (c : Word) : CtrlKept c (Ctrl.setReadErr c) := by
  constructor <;> simp

theorem ctrlKept_setWriteErr (c : Word) : CtrlKept c (Ctrl.setWriteErr c) := by
  constructor <;> simp

/-! ### Errors of the block -/

/-- What an agent's turn leaves alone of the run itself: the parameters, the index of the step and the turns still to
come. -/
structure RunKept (s t : State) : Prop where
  params : t.params = s.params
  stepNo : t.stepNo = s.stepNo
  sched : t.sched = s.sched

/-- From `s` to `t` no error bit, sticky flag or entry of FAULTS is lost (60_exceptions.md R312, R315). -/
structure ErrorsKept (s t : State) : Prop extends RunKept s t where
  faults : s.faults <+: t.faults
  ctrl : ∀ n, CtrlKept (s.ch n).ctrl (t.ch n).ctrl
  pixTxOver : s.pixTxOver = true → t.pixTxOver = true
  paramOver : s.paramOver = true → t.paramOver = true
  noprogErr : s.noprogErr = true → t.noprogErr = true
  doubleStart : s.doubleStart = true → t.doubleStart = true

theorem ErrorsKept.refl (s : State) : ErrorsKept s s where
  params := rfl
  stepNo := rfl
  sched := rfl
  faults := List.prefix_rfl
  ctrl _ := .refl _
  pixTxOver := id
  paramOver := id
  noprogErr := id
  doubleStart := id

theorem ErrorsKept.trans (h : ErrorsKept s t) (h' : ErrorsKept t u) : ErrorsKept s u where
  params := h'.params.trans h.params
  stepNo := h'.stepNo.trans h.stepNo
  sched := h'.sched.trans h.sched
  faults := h.faults.trans h'.faults
  ctrl n := (h.ctrl n).trans (h'.ctrl n)
  pixTxOver := h'.pixTxOver ∘ h.pixTxOver
  paramOver := h'.paramOver ∘ h.paramOver
  noprogErr := h'.noprogErr ∘ h.noprogErr
  doubleStart := h'.doubleStart ∘ h.doubleStart

/-! ### One rule for each operation on the state -/

theorem errorsKept_setCh {n : Chan} {x : Channel} (h : CtrlKept (s.ch n).ctrl x.ctrl) : ErrorsKept s (s.setCh n x) where
  __ := ErrorsKept.refl s
  ctrl m := by
    rw [State.setCh_ch]
    split
    · next e => rwa [e]
    · exact .refl _

theorem errorsKept_modCtrl (n : Chan) (f : Word → Word) (h : ∀ c, CtrlKept c (f c)) : ErrorsKept s (s.modCtrl n f) :=
  errorsKept_setCh (h _)

theorem errorsKept_setGen (g : Gen) (x : Generator) (s : State) : ErrorsKept s (s.setGen g x) where
  __ := ErrorsKept.refl s
  ctrl m := by
    rw [State.setGen_ch]
    exact .refl _

theorem errorsKept_setSeqState (q : SeqState) (s : State) : ErrorsKept s { s with seqState := q } :=
  { ErrorsKept.refl s with }

/-- An error sets its own bit or flag and clears no other (60_exceptions.md R311). -/
theorem errorsKept_errorEffect (e : FaultEvent) (s : State) : ErrorsKept s (errorEffect e s) := by
  cases e with
  | cfgErr n => exact errorsKept_modCtrl n _ ctrlKept_setCfgErr
  | readErr n a =>
    exact errorsKept_modCtrl n _ fun c => (ctrlKept_setReadErr c).trans (ctrlKept_putBusy_false _)
  | writeErr n a =>
    exact errorsKept_modCtrl n _ fun c => (ctrlKept_setWriteErr c).trans (ctrlKept_putBusy_false _)
  | noprog g => exact { ErrorsKept.refl s with noprogErr := fun _ => rfl }
  | doubleInit => exact { ErrorsKept.refl s with doubleStart := fun _ => rfl }
  | hostFault k hdr => exact .refl s

/-- Its entry goes to the end of FAULTS (60_exceptions.md R312). -/
theorem errorsKept_raiseEvent (e : FaultEvent) (s : State) : ErrorsKept s (raiseEvent e s) :=
  { errorsKept_errorEffect e s with faults := List.prefix_append _ _ }

theorem errorsKept_trigger (n : Chan) (s : State) : ErrorsKept s (trigger n s) := by
  rcases trigger_cases s n with e | ⟨_, herr, _, ⟨_, e⟩ | ⟨_, _, e⟩ | ⟨_, _, e⟩⟩ <;> rw [e]
  · exact .refl s
  · exact errorsKept_raiseEvent _ s
  · exact errorsKept_setCh (.refl _)
  · exact errorsKept_setCh (ctrlKept_putBusy_true herr)

theorem errorsKept_triggerIf (b : Bool) (n : Chan) (s : State) : ErrorsKept s (triggerIf b n s) := by
  cases b
  · exact .refl s
  · exact errorsKept_trigger n s

/-! ### Register writes -/

theorem errorsKept_noprogCheck (old new : Word) (g : Gen) (s : State) : ErrorsKept s (noprogCheck old new g s) := by
  unfold noprogCheck
  split
  · exact errorsKept_raiseEvent _ s
  · exact .refl s

/-- The NOPROG checks may record errors; the records of EN_STEP change generators only (44_timing_generators.md R241). -/
theorem errorsKept_wrGenEnable (v : Word) (s : State) : ErrorsKept s (wrGenEnable v s) := by
  have checks (old new : Word) := ((errorsKept_noprogCheck old new .h s).trans
    (errorsKept_noprogCheck old new .v _)).trans (errorsKept_noprogCheck old new .p _)
  rw [wrGenEnable, markEnabled_all]
  exact { checks s.genEnable (v &&& genEnableMask) with }

/-- A push to a full queue sets its flag (44_timing_generators.md R244). -/
theorem errorsKept_wrGenParam (g : Gen) (v : Word) (s : State) : ErrorsKept s (wrGenParam g v s) := by
  unfold wrGenParam
  split
  · exact errorsKept_setGen g _ s
  · exact { ErrorsKept.refl s with paramOver := fun _ => rfl }

/-- A push to a full queue sets its flag (44_timing_generators.md R246). -/
theorem errorsKept_wrPixTxf (v : Word) (s : State) : ErrorsKept s (wrPixTxf v s) := by
  unfold wrPixTxf
  split
  · exact { ErrorsKept.refl s with }
  · exact { ErrorsKept.refl s with pixTxOver := fun _ => rfl }

theorem errorsKept_wrImemUsed (v : Word) (s : State) : ErrorsKept s (wrImemUsed v s) := by
  unfold wrImemUsed
  split
  · exact { ErrorsKept.refl s with }
  · exact .refl s

theorem errorsKept_wrSeqCfg (r : SeqCfg) (v : Word) (s : State) : ErrorsKept s (wrSeqCfg r v s) := by
  unfold wrSeqCfg
  split
  · cases r <;> exact { ErrorsKept.refl s with }
  · exact .refl s

/-- A second START sets DOUBLE_START (45_startup_sequencer.md R284). -/
theorem errorsKept_wrSeqCtrl (v : Word) (s : State) : ErrorsKept s (wrSeqCtrl v s) := by
  unfold wrSeqCtrl
  split
  · split
    · exact { ErrorsKept.refl s with }
    · exact errorsKept_raiseEvent _ s
  · exact .refl s

/-- No register write clears an error: the error bits of CTRL and the flags are read-only (10_state.md R44, R55, R61). -/
theorem errorsKept_regWrite (r : Reg) (v : Word) (s : State) : ErrorsKept s (regWrite r v s) := by
  cases r with
  | chReadAddr n => exact errorsKept_setCh (.refl _)
  | chWriteAddr n => exact errorsKept_setCh (.refl _)
  | chTransCount n => exact errorsKept_setCh (.refl _)
  | chCtrl n => exact errorsKept_modCtrl n _ fun c => ctrlKept_written c v
  | multiTrig =>
    exact ((errorsKept_triggerIf _ .ch0 s).trans (errorsKept_triggerIf _ .ch1 _)).trans (errorsKept_triggerIf _ .ch2 _)
  | resClaim => exact { ErrorsKept.refl s with }
  | genEnable => exact errorsKept_wrGenEnable v s
  | genParam g => exact errorsKept_wrGenParam g v s
  | pixTxf => exact errorsKept_wrPixTxf v s
  | imemUsed => exact errorsKept_wrImemUsed v s
  | seqCfg r => exact errorsKept_wrSeqCfg r v s
  | seqCtrl => exact errorsKept_wrSeqCtrl v s
  | status | genStatus | seqStatus => exact .refl s

theorem errorsKept_busWrite {a : Addr} {sz : Size} {v : Word} (h : busWrite a sz v s = some t) : ErrorsKept s t := by
  rcases busWrite_cases s h with ⟨r, _, _, rfl⟩ | ⟨_, _, rfl⟩
  · exact errorsKept_regWrite r v s
  · exact { ErrorsKept.refl s with }

/-! ### The agents' turns -/

theorem errorsKept_hostStep (h : hostStep s = .next t) : ErrorsKept s t := by
  unfold hostStep at h
  split at h
  · cases h
    exact .refl s
  · next op rest _ =>
    obtain ⟨q, _, ⟨r, v, rfl⟩ | ⟨x, rfl⟩ | ⟨k, hdr, rfl⟩ | ⟨a, sz, v, _, _, rfl⟩⟩ := hostOp_next h
    · exact { errorsKept_regWrite r v { s with hostQ := rest } with }
    · exact { ErrorsKept.refl s with }
    · exact { errorsKept_raiseEvent (.hostFault k hdr) { s with hostQ := rest } with }
    · exact { ErrorsKept.refl s with }

/-- The advance, completion and the trigger it may chain to (41_transfer_engine.md R180, R182). -/
theorem errorsKept_finishElement (n : Chan) (sz : Size) (s : State) : ErrorsKept s (finishElement n sz s) := by
  have stopped : ErrorsKept s (s.setCh n (finished sz (s.ch n))) := errorsKept_setCh (ctrlKept_putBusy_false _)
  rcases finishElement_cases n sz s with ⟨_, e⟩ | ⟨_, e⟩ | ⟨m, _, _, _, e⟩ <;> rw [e]
  · exact errorsKept_setCh (.refl _)
  · exact stopped
  · exact stopped.trans (errorsKept_trigger m _)

theorem errorsKept_chStep {n : Chan} (h : chStep n s = .next t) : ErrorsKept s t := by
  rcases chStep_next h with ⟨_, rfl⟩ | ⟨sz, _, _, _, _, ⟨_, rfl⟩ | ⟨_, rfl⟩⟩
  · exact .refl _
  · rcases chReadPhase_cases n sz s with e | ⟨x, _, _, e⟩ <;> rw [e]
    · exact errorsKept_raiseEvent _ s
    · exact errorsKept_setCh (.refl _)
  · rcases chWritePhase_cases n sz s with e | ⟨w, _, hw, e⟩ <;> rw [e]
    · exact errorsKept_raiseEvent _ s
    · exact (errorsKept_busWrite hw).trans (errorsKept_finishElement n sz w)

theorem errorsKept_genStep (g : Gen) (s : State) : ErrorsKept s (genStep g s) := by
  rcases genStep_cases g s with ⟨_, e⟩ | ⟨_, _, e⟩ | e <;> rw [e]
  · exact errorsKept_setGen g _ s
  · exact { ErrorsKept.refl s with }
  · exact .refl s

theorem errorsKept_loadPrograms (gs : List Gen) (s : State) : ErrorsKept s (loadPrograms gs s) := by
  induction gs generalizing s with
  | nil => exact { ErrorsKept.refl s with }
  | cons g gs ih =>
    have loaded : ErrorsKept s (loadProgram g s) := { errorsKept_setGen g { s.gen g with loaded := true } s with }
    unfold loadPrograms
    split
    · exact loaded.trans (ih _)
    · exact { ErrorsKept.refl s with }

/-- The config phase writes the channels' registers as any agent does (45_startup_sequencer.md R294, R295). -/
theorem errorsKept_configureA (s : State) : ErrorsKept s (configureA s) :=
  (((errorsKept_regWrite (.chReadAddr .ch0) _ s).trans (errorsKept_regWrite (.chWriteAddr .ch0) _ _)).trans
    (errorsKept_regWrite (.chTransCount .ch0) _ _)).trans (errorsKept_regWrite (.chCtrl .ch0) _ _)

theorem errorsKept_configureB (s : State) : ErrorsKept s (configureB s) :=
  (((errorsKept_regWrite (.chReadAddr .ch1) _ s).trans (errorsKept_regWrite (.chWriteAddr .ch1) _ _)).trans
    (errorsKept_regWrite (.chTransCount .ch1) _ _)).trans (errorsKept_regWrite (.chCtrl .ch1) _ _)

theorem errorsKept_seqStep (s : State) : ErrorsKept s (seqStep s) := by
  unfold seqStep
  cases s.seqState with
  | load => exact errorsKept_loadPrograms _ s
  | assign =>
    simp only [seqAssign]
    split <;> exact { ErrorsKept.refl s with }
  | config =>
    simp only [seqConfig]
    split
    · exact { ErrorsKept.refl s with }
    · have claimed : ErrorsKept s { s with resClaim := s.resClaim ||| scanoutClaims } := { ErrorsKept.refl s with }
      have configured := claimed.trans ((errorsKept_configureA _).trans (errorsKept_configureB _))
      exact configured.trans (errorsKept_setSeqState .param _)
  | param =>
    have pushes := ((errorsKept_wrGenParam .h s.seqParamH s).trans (errorsKept_wrGenParam .v s.seqParamV _)).trans
      (errorsKept_wrGenParam .p s.seqParamP _)
    exact pushes.trans (errorsKept_setSeqState .enable _)
  | enable => exact (errorsKept_wrGenEnable _ s).trans (errorsKept_setSeqState .arm _)
  | arm => exact (errorsKept_trigger .ch0 s).trans (errorsKept_setSeqState .running _)
  | idle | running | failed => exact .refl s

theorem errorsKept_agentStep {a : Agent} (h : agentStep a s = .next t) : ErrorsKept s t := by
  cases a with
  | host => exact errorsKept_hostStep h
  | chan n => exact errorsKept_chStep h
  | gen g =>
    cases h
    exact errorsKept_genStep g s
  | seq =>
    cases h
    exact errorsKept_seqStep s

/-- A step is an agent's turn, which keeps every error, between taking the turn and counting it (20_memory.md R104). -/
theorem step_errorsKept (h : step s = .next t) : ∃ u, ErrorsKept (takeTurn s) u ∧ t = countStep u := by
  obtain ⟨u, hu, ht⟩ := step_next h
  exact ⟨u, errorsKept_agentStep hu, ht⟩

/-- Settles O49: the agent with the turn keeps every error, and taking and counting the turn touch none; that FAILED stays
is R290's statement. -/
theorem errorsAreForever : Obligations.ErrorsAreForever := by
  refine ⟨fun s t h => ?run, fun s t h => ?errors, fun s n => trigger_of_err s⟩
  case run =>
    obtain ⟨u, kept, rfl⟩ := step_errorsKept h
    obtain ⟨new, hnew⟩ := kept.faults
    exact ⟨⟨new, hnew.symm⟩, kept.params, congrArg (· + 1) kept.stepNo⟩
  case errors =>
    obtain ⟨_, hfailed, _⟩ := sequencerTerminal s t h
    obtain ⟨u, kept, rfl⟩ := step_errorsKept h
    refine ⟨fun n => ?channel, kept.pixTxOver, kept.paramOver, kept.noprogErr, kept.doubleStart,
      fun hs => (hfailed hs).1⟩
    rw [countStep_ch]
    obtain ⟨cfgErr, readErr, writeErr, idle⟩ := takeTurn_ch s n ▸ kept.ctrl n
    exact ⟨cfgErr, readErr, writeErr, idle⟩

/-! ### Every turn answers a next state -/

/-- A transaction runs its instruction, which completes in every state, or is a host-access fault
(60_exceptions.md R313, R330). -/
theorem exists_hostBus (x : Transaction) (s : State) : ∃ t, hostBus x s = .next t := by
  rcases hostBus_cases x s with ⟨i, _, e⟩ | ⟨k, _, e⟩ <;> rw [e]
  · rcases exec_cases i s with ⟨r, sz, v, _, e⟩ | ⟨r, _, e⟩ <;> exact ⟨_, e⟩
  · exact ⟨_, rfl⟩

theorem exists_hostPoll (op : HostOp) (x : Transaction) (done : Word → Bool) (s : State) :
    ∃ t, hostPoll op x done s = .next t := by
  obtain ⟨u, hu⟩ := exists_hostBus x s
  simp only [hostPoll, hu]
  split
  · split <;> exact ⟨_, rfl⟩
  · exact ⟨_, rfl⟩

/-- No access of the host ends a run, an unmapped address included (60_exceptions.md R310, R337; assumption 11). -/
theorem exists_hostOp (op : HostOp) (s : State) : ∃ t, hostOp op s = .next t := by
  cases op with
  | bus x => exact exists_hostBus x s
  | load a sz =>
    simp only [hostOp, hostLoad]
    split
    · exact exists_hostBus _ s
    · exact ⟨_, rfl⟩
  | store a sz v =>
    simp only [hostOp, hostStore]
    split
    · exact exists_hostBus _ s
    · exact ⟨_, rfl⟩
  | waitIdle n => exact exists_hostPoll (.waitIdle n) (encode .rdStatus) (idleSeen n) s
  | waitSeq => exact exists_hostPoll .waitSeq (encode .rdSeqStatus) startupOver s

theorem exists_hostStep (s : State) : ∃ t, hostStep s = .next t := by
  unfold hostStep
  split
  · exact ⟨_, rfl⟩
  · exact exists_hostOp _ _

/-- A DATA_SIZE that is not reserved names a size (10_state.md R38). -/
theorem exists_size (h : Ctrl.dataSize c ≠ 3#2) : ∃ sz, Ctrl.size? c = some sz :=
  Option.ne_none_iff_exists'.1 fun e => h (Size.ofCode_eq_none_iff.1 e)

/-- A busy channel's configuration is legal, so the fault of assumption 13 does not occur (41_transfer_engine.md R172,
R176). -/
theorem BlockInv.exists_chStep (h : BlockInv s) (n : Chan) : ∃ t, Machine.chStep n s = .next t := by
  by_cases hen : chEnabled n s = true
  · obtain ⟨hbusy, _, _⟩ := chEnabled_iff.1 hen
    obtain ⟨_, hlegal, _⟩ := h.busyLegal n hbusy
    obtain ⟨hsize, hchain, _⟩ := configLegal_iff.1 hlegal
    obtain ⟨sz, hsz⟩ := exists_size hsize
    obtain ⟨m, hm⟩ := exists_chain hchain
    simp only [Machine.chStep, hen, hsz, hm]
    cases (s.ch n).phase <;> exact ⟨_, rfl⟩
  · exact ⟨s, if_pos (Bool.eq_false_iff.2 hen)⟩

theorem BlockInv.exists_agentStep (h : BlockInv s) (a : Agent) : ∃ t, Machine.agentStep a s = .next t := by
  cases a with
  | host => exact exists_hostStep s
  | chan n => exact h.exists_chStep n
  | gen g => exact ⟨_, rfl⟩
  | seq => exact ⟨_, rfl⟩

/-- Settles O48: whoever has the turn, it answers a next state. -/
theorem stepsGoOn : Obligations.StepsGoOn := by
  intro s h
  have acting : BlockInv (takeTurn s) := h.of_bare rfl
  obtain ⟨u, hu⟩ := acting.exists_agentStep (nextAgent s)
  exact ⟨countStep u, by rw [step, stepOnce, hu, counted]⟩

/-! ### A start ends -/

/-- The turns of the sequencer that a start has left at most (45_startup_sequencer.md R289). -/
def SeqState.phasesLeft : SeqState → Nat
  | .load => 6
  | .assign => 5
  | .config => 4
  | .param => 3
  | .enable => 2
  | .arm => 1
  | .idle | .running | .failed => 0

theorem SeqState.phasesLeft_le_six (q : SeqState) : q.phasesLeft ≤ 6 := by cases q <;> decide

theorem SeqState.phasesLeft_succ (q : SeqState) : q.succ.phasesLeft = q.phasesLeft - 1 := by cases q <;> rfl

/-- A started sequencer with no phase left is RUNNING or FAILED (45_startup_sequencer.md R290). -/
theorem SeqState.over_of_phasesLeft {q : SeqState} (hs : q ≠ .idle) (h : q.phasesLeft = 0) :
    q = .running ∨ q = .failed := by
  cases q with
  | idle => exact absurd rfl hs
  | running => exact .inl rfl
  | failed => exact .inr rfl
  | _ => cases h

/-- The sequencer has a step exactly while phases are left (45_startup_sequencer.md R288). -/
theorem seqEnabled_iff : seqEnabled s = true ↔ s.seqState.phasesLeft ≠ 0 := by
  unfold seqEnabled
  cases s.seqState <;> decide

/-- No step returns the sequencer to IDLE (45_startup_sequencer.md R290). -/
theorem step_started (h : step s = .next t) (hs : s.seqState ≠ .idle) : t.seqState ≠ .idle := by
  obtain ⟨_, _, notIdle⟩ := sequencerTerminal s t h
  exact mt notIdle hs

/-- A turn of the sequencer uses up a phase, or the start fails (45_startup_sequencer.md R289). -/
theorem seqTurn_phasesLeft (s : State) : (seqTurn s).seqState.phasesLeft ≤ s.seqState.phasesLeft - 1 := by
  have turned : (seqTurn s).seqState = (seqStep (takeTurn s)).seqState := rfl
  rw [turned]
  rcases seqStep_seqState (takeTurn s) with e | e <;> rw [e]
  · exact (SeqState.phasesLeft_succ _).le
  · exact Nat.zero_le _

/-- No turn of another agent gives a started sequencer a phase back (45_startup_sequencer.md R284). -/
theorem step_phasesLeft_le (h : step s = .next t) (hs : s.seqState ≠ .idle) :
    t.seqState.phasesLeft ≤ s.seqState.phasesLeft := by
  rcases step_seq_cases h with rfl | ⟨_, same | ⟨hidle, _⟩⟩
  · exact (seqTurn_phasesLeft s).trans (Nat.sub_le _ 1)
  · exact (congrArg SeqState.phasesLeft same).le
  · exact absurd hidle hs

/-- A step uses up the first of the turns listed. -/
theorem step_sched (h : step s = .next t) : t.sched = s.sched.tail := by
  obtain ⟨u, kept, rfl⟩ := step_errorsKept h
  exact kept.sched

/-- A run of at least one step that answers a state has a first step that answers one. -/
theorem run_succ_next {k : Nat} (h : core.run (k + 1) s = .next t) : ∃ u, step s = .next u ∧ core.run k u = .next t := by
  cases hs : step s with
  | next u => exact ⟨u, rfl, (run_succ hs).symm.trans h⟩
  | fault r =>
    have e : core.step s = .fault r := hs
    simp only [Host.Core.run, e, reduceCtorEq] at h
  | refused r =>
    have e : core.step s = .refused r := hs
    simp only [Host.Core.run, e, reduceCtorEq] at h

/-- Every turn of the sequencer in a run uses up a phase, wherever it falls among the others. -/
theorem run_phasesLeft {turns : List Agent} (hturns : s.sched = turns) (hs : s.seqState ≠ .idle)
    (h : core.run turns.length s = .next t) :
    t.seqState ≠ .idle ∧ t.seqState.phasesLeft ≤ s.seqState.phasesLeft - turns.count .seq := by
  induction turns generalizing s with
  | nil =>
    cases h
    exact ⟨hs, Nat.le_refl _⟩
  | cons a turns ih =>
    obtain ⟨u, hu, hrun⟩ := run_succ_next h
    obtain ⟨started, left⟩ := ih (by rw [step_sched hu, hturns, List.tail_cons]) (step_started hu hs) hrun
    refine ⟨started, left.trans ?_⟩
    by_cases ha : a = .seq
    · subst ha
      obtain rfl : seqTurn s = u := seqTurn_of_step (nextAgent_of_sched hturns) hu
      rw [List.count_cons_self]
      have used := seqTurn_phasesLeft s
      omega
    · rw [List.count_cons_of_ne ha]
      exact Nat.sub_le_sub_right (step_phasesLeft_le hu hs) _

theorem IsRun.started (hrun : IsRun run) {j k : Nat} (hk : (run k).seqState ≠ .idle) (hj : k ≤ j) :
    (run j).seqState ≠ .idle := by
  induction j, hj using Nat.le_induction with
  | base => exact hk
  | succ j _ ih => exact step_started (hrun j) ih

theorem IsRun.phasesLeft_le (hrun : IsRun run) {j k : Nat} (hk : (run k).seqState ≠ .idle) (hj : k ≤ j) :
    (run j).seqState.phasesLeft ≤ (run k).seqState.phasesLeft := by
  induction j, hj using Nat.le_induction with
  | base => exact Nat.le_refl _
  | succ j hj ih => exact (step_phasesLeft_le (hrun j) (hrun.started hk hj)).trans ih

/-- While phases are left the sequencer has a step, so in a weakly fair run it gets a turn, which uses one up
(20_memory.md R105; 45_startup_sequencer.md R299). -/
theorem IsRun.exists_fewer_phases (hrun : IsRun run) (fair : WeaklyFair run) {k : Nat}
    (hk : (run k).seqState ≠ .idle) (left : (run k).seqState.phasesLeft ≠ 0) :
    ∃ j, k ≤ j ∧ (run j).seqState.phasesLeft < (run k).seqState.phasesLeft := by
  by_cases always : ∀ j, k ≤ j → agentEnabled .seq (run j) = true
  · obtain ⟨j, hj, hturn⟩ := fair .seq k always
    have turned : seqTurn (run j) = run (j + 1) := seqTurn_of_step hturn (hrun j)
    have used := seqTurn_phasesLeft (run j)
    have before := hrun.phasesLeft_le hk hj
    rw [turned] at used
    exact ⟨j + 1, by omega, by omega⟩
  · simp only [not_forall] at always
    obtain ⟨j, hj, idle⟩ := always
    have noneLeft : (run j).seqState.phasesLeft = 0 := not_not.1 (mt seqEnabled_iff.2 idle)
    exact ⟨j, hj, by omega⟩

theorem IsRun.exists_over (hrun : IsRun run) (fair : WeaklyFair run) (k : Nat) (hk : (run k).seqState ≠ .idle) :
    ∃ j, (run j).seqState = .running ∨ (run j).seqState = .failed := by
  induction hn : (run k).seqState.phasesLeft using Nat.strong_induction_on generalizing k with
  | _ n ih =>
    by_cases left : (run k).seqState.phasesLeft = 0
    · exact ⟨k, SeqState.over_of_phasesLeft hk left⟩
    · obtain ⟨j, hj, fewer⟩ := hrun.exists_fewer_phases fair hk left
      exact ih _ (hn ▸ fewer) j (hrun.started hk hj) rfl

/-- Settles O42: a start has at most six phases left, and each turn of the sequencer uses one up; a weakly fair run keeps
giving it turns while it has one. -/
theorem startupEnds : Obligations.StartupEnds := by
  refine ⟨fun s t turns hs six h => ?turns, fun run hrun fair hs => hrun.exists_over fair 0 hs⟩
  obtain ⟨started, left⟩ := run_phasesLeft (s := s.withTurns turns) (turns := turns) rfl hs h
  have atMost := s.seqState.phasesLeft_le_six
  rw [State.withTurns_seqState] at left
  exact SeqState.over_of_phasesLeft started (by omega)

end Sys2Proof.Machine
end

section
/-! # Silence after reset (70_reset_and_hazards.md)

Where no agent has an enabled step, every turn only uses itself up and is counted, so no agent ever gets one: such a run
has a closed form, and the state after power-on reset begins one. -/

namespace Sys2Proof.Machine

variable {s : State}

/-! ### Runs in which no agent has a step -/

/-- Whether an agent has a step depends neither on the turns to come nor on the count of steps. -/
theorem agentEnabled_turns_stepNo (a : Agent) (s : State) (turns : List Agent) (n : Nat) :
    agentEnabled a { s with sched := turns, stepNo := n } = agentEnabled a s := by
  cases a <;> rfl

/-- While no agent has an enabled step, a run uses up its turns and counts its steps (20_memory.md R105). -/
theorem run_of_noneEnabled (h : ∀ a, agentEnabled a s = false) (k : Nat) :
    core.run k s = .next { s with sched := s.sched.drop k, stepNo := s.stepNo + k } := by
  induction k generalizing s with
  | zero => exact run_zero s
  | succ k ih =>
    have idle := idleTurnChangesNothing s (h (nextAgent s))
    rw [run_succ idle, ih fun a => (agentEnabled_turns_stepNo a s _ _).trans (h a)]
    simp only [List.drop_tail, Nat.add_assoc, Nat.add_comm 1 k]

/-! ### Power-on reset -/

/-- No channel is busy after reset (10_state.md R68). -/
theorem chEnabled_powerOn (p : Params) (n : Chan) : chEnabled n (State.powerOn p) = false := by
  have notBusy : Ctrl.busy (Channel.atReset n).ctrl = false := by cases n <;> decide
  rw [← Bool.not_eq_true, chEnabled_iff, powerOn_ch, notBusy]
  simp

/-- No generator is loaded after reset, so none latches a parameter or takes a pixel (44_timing_generators.md R250, R252). -/
theorem agentEnabled_gen_powerOn (p : Params) (g : Gen) : agentEnabled (.gen g) (State.powerOn p) = false := by
  have notLoaded : ((State.powerOn p).gen g).loaded = false := by rw [powerOn_gen]; rfl
  have notLoadedP : (State.powerOn p).genP.loaded = false := rfl
  rw [← Bool.not_eq_true, agentEnabled_gen_iff, latchEnabled_iff, pixPopEnabled_iff, notLoaded, notLoadedP]
  simp

/-- After reset no agent has an enabled step, the host having no access to perform either. -/
theorem agentEnabled_powerOn (p : Params) (a : Agent) : agentEnabled a (State.powerOn p) = false := by
  cases a with
  | host => rfl
  | chan n => exact chEnabled_powerOn p n
  | gen g => exact agentEnabled_gen_powerOn p g
  | seq => rfl

/-- Settles O45: no agent has a step after reset, whoever is given the turns, so a run only counts its steps. -/
theorem quiescentAfterReset : Obligations.QuiescentAfterReset := by
  intro p
  refine ⟨fun a _ => agentEnabled_powerOn p a, fun k => ?freeTurns, fun turns => ?givenTurns⟩
  case freeTurns =>
    rw [run_of_noneEnabled (agentEnabled_powerOn p)]
    simp [State.powerOn]
  case givenTurns =>
    have noneEnabled (a : Agent) : agentEnabled a ((State.powerOn p).withTurns turns) = false :=
      (agentEnabled_turns_stepNo a (State.powerOn p) turns 0).trans (agentEnabled_powerOn p a)
    rw [run_of_noneEnabled noneEnabled]
    simp [State.withTurns, State.powerOn]

end Sys2Proof.Machine
end
